-- ==== Sys2Proof/Word.lean ====
section
/-!
DEFINITION. The widths of the machine (00_scope R8): bytes, int16 samples, 32-bit registers and destination patterns.
-/

namespace Sys2Proof

/-- One byte of the input stream or of `stage` (20_memory R60). -/
abbrev Byte := BitVec 8

/-- One int16 sample, two's complement (00_scope R6, `SAMPLE_W`). -/
abbrev Sample := BitVec 16

/-- A 32-bit register, or the binary32 pattern of a destination sample (10_state R34, 20_memory R65). -/
abbrev Word := BitVec 32

end Sys2Proof
end

