-- ==== Sys2Proof/Config.lean ====
section
/-!
DEFINITION. The implementation parameters of 00_scope R6 and R7, and the free values of the spec as constants without a body.
The parameters that are functions (`numByteOrder`, `numAnchors`, `holdAnchors`, the conversion) are definitions of
Machine/Operands.lean, where each is named after its parameter.
-/

namespace Sys2Proof.Config

/-- `BLOCK` (00_scope R6): samples per channel of one compression block, and the capacity of `base` and `work`. -/
def block : Nat := 4096

/-- `HDR_BYTES` (00_scope R6): bytes of a cycle header. -/
def hdrBytes : Nat := 3

/-- `MAX_RATE` (00_scope R6): the largest legal bit rate. -/
def maxRate : Nat := 16

/-- `ANCHOR_STRIDE` (00_scope R7, D6): dense samples per anchor of a diff cycle. -/
def anchorStride : Nat := 4

/-- `STAGE_BYTES` (00_scope R7, D35): capacity of the staging buffer. -/
def stageBytes : Nat := 8192

/-- The largest legal log2 sample count of a diff header (30_encoding R94): `1 <<< 12` is `BLOCK`. -/
def maxLog2 : Nat := 12

/-- `CNT_W` (00_scope R7, D24): the width of the cursor and argument registers. Every one of them has the type `Cursor`. -/
@[simp] abbrev cntW : Nat := 32

/-- The bound on `destCap` (42_session_commands R174 step 4). -/
def destCapLimit : Nat := 2 ^ 31

/-- `DELTA_WRITES_BACK` (93_implementation_defined U2, D11): a delta cycle replaces the baseline by its sum. -/
def deltaWritesBack : Bool := true

/-- FREE VALUE: byte `i` of `stage` after the draw numbered `d` (10_state R39: the contents of `stage` after SETUP are
unspecified). -/
opaque freeStageByte (d i : Nat) : Byte

/-- FREE VALUE: the throughput sample of the draw numbered `d` (60_exceptions R258: a free draw under no law). -/
opaque throughputSample (d : Nat) : Word

/-- FREE VALUE: the rounded arithmetic mean of at least two throughput samples (60_exceptions R259: its rounding is
unspecified). -/
opaque throughputMean (samples : List Word) : Word

/-- `HIST_DEPTH - 1`: the history depth is OPEN, a positive integer (00_scope R7). -/
opaque histDepthPred : Nat

/-- `HIST_DEPTH` (00_scope R7): entries of the rolling throughput history. -/
def histDepth : Nat := histDepthPred + 1

end Sys2Proof.Config

namespace Sys2Proof

/-- A cursor, request or argument register: `CNT_W` bits, counting modulo `2 ^ CNT_W` (00_scope R7, D24). -/
abbrev Cursor := BitVec Config.cntW

end Sys2Proof
end

