-- ==== Sys2Proof/Syntax.lean ====
section
/-!
DEFINITION. The instructions: one constructor for each row of spec/opcode_table.json, with the row's operand fields.
Ignored bits (30_encoding R103) are no operands.
-/

namespace Sys2Proof

/-- The three formats (30_encoding R90): a cycle header, a rate field of a header, a command code. -/
inductive Format where
  /-- `HDR`: the 3 bytes of a cycle header (30_encoding R91). -/
  | hdr
  /-- `RATE`: a 5-bit rate field, which selects an unpacker (41_bitrate_unpack R140). -/
  | rate
  /-- `CMD`: a 2-bit command code (30_encoding R105). -/
  | cmd
deriving DecidableEq, Repr

/-- The instructions of the machine. -/
inductive Instr where
  /-- `TEMPLATE rate, n` (44_reconstruct R212). -/
  | template (rate : BitVec 5) (n : BitVec 16)
  /-- `DELTA rate, n` (44_reconstruct R213). -/
  | delta (rate : BitVec 5) (n : BitVec 16)
  /-- `DIFF rateFull, rateErr, k` with diff flag value 1 (44_reconstruct R216). -/
  | diff1 (rateFull rateErr : BitVec 5) (k : BitVec 8)
  /-- `DIFF` with diff flag value 2; same meaning (30_encoding R95). -/
  | diff2 (rateFull rateErr : BitVec 5) (k : BitVec 8)
  /-- `DIFF` with diff flag value 3; same meaning (30_encoding R95). -/
  | diff3 (rateFull rateErr : BitVec 5) (k : BitVec 8)
  /-- `UNPACK0` (41_bitrate_unpack R144); the next sixteen are R145 to R160. -/
  | unpack0
  | unpack1
  | unpack2
  | unpack3
  | unpack4
  | unpack5
  | unpack6
  | unpack7
  | unpack8
  | unpack9
  | unpack10
  | unpack11
  | unpack12
  | unpack13
  | unpack14
  | unpack15
  | unpack16
  /-- The illegal rate 17 (60_exceptions R243). -/
  | unpackIll17
  /-- The illegal rates 18 and 19: `low` is rate bit 0. -/
  | unpackIll18_19 (low : BitVec 1)
  /-- The illegal rates 20 to 23: `low` is rate bits 1:0. -/
  | unpackIll20_23 (low : BitVec 2)
  /-- The illegal rates 24 to 31: `low` is rate bits 2:0. -/
  | unpackIll24_31 (low : BitVec 3)
  /-- Command `RESET`, op 0 (42_session_commands R173). -/
  | reset
  /-- Command `SETUP`, op 1 (42_session_commands R172). -/
  | setup
  /-- Command `DECODE`, op 2 (42_session_commands R174); its arguments are the `ARG_*` registers. -/
  | decode
  /-- The reserved command code 3 (42_session_commands R171). -/
  | cmdReserved
deriving DecidableEq, Repr

/-- The format of the row an instruction belongs to. -/
def Instr.format : Instr → Format
  | .template _ _ | .delta _ _ | .diff1 _ _ _ | .diff2 _ _ _ | .diff3 _ _ _ => .hdr
  | .unpack0 | .unpack1 | .unpack2 | .unpack3 | .unpack4 | .unpack5 | .unpack6 | .unpack7 | .unpack8
  | .unpack9 | .unpack10 | .unpack11 | .unpack12 | .unpack13 | .unpack14 | .unpack15 | .unpack16
  | .unpackIll17 | .unpackIll18_19 _ | .unpackIll20_23 _ | .unpackIll24_31 _ => .rate
  | .reset | .setup | .decode | .cmdReserved => .cmd

end Sys2Proof
end

