-- ==== Sys2Proof/WellFormed.lean ====
section
/-!
DEFINITION. Which instructions are legal encodings (30_encoding R101, R102): a cycle with an illegal rate or sample count
raises a structural error, and the illegal rate rows are never legal. Whether a legal cycle fits its block is a matter of the
state (43_loop_control R194 step 5), not of the encoding.
-/

namespace Sys2Proof

/-- A legal bit rate, 0 to 16 (30_encoding R92, R101). -/
def legalRate (r : BitVec 5) : Bool := r.toNat ≤ Config.maxRate

/-- A legal literal sample count, 1 to 4096 (30_encoding R93, R102). -/
def legalCount (n : BitVec 16) : Bool := 1 ≤ n.toNat && n.toNat ≤ Config.block

/-- A legal log2 sample count, 0 to 12 (30_encoding R94, R102). -/
def legalLog2 (k : BitVec 8) : Bool := k.toNat ≤ Config.maxLog2

/-- The legal encodings. -/
def Instr.wellFormed : Instr → Bool
  | .template rate n | .delta rate n => legalRate rate && legalCount n
  | .diff1 rateFull rateErr k | .diff2 rateFull rateErr k | .diff3 rateFull rateErr k =>
    legalRate rateFull && legalRate rateErr && legalLog2 k
  | .unpack0 | .unpack1 | .unpack2 | .unpack3 | .unpack4 | .unpack5 | .unpack6 | .unpack7 | .unpack8
  | .unpack9 | .unpack10 | .unpack11 | .unpack12 | .unpack13 | .unpack14 | .unpack15 | .unpack16 => true
  | .unpackIll17 | .unpackIll18_19 _ | .unpackIll20_23 _ | .unpackIll24_31 _ => false
  | .reset | .setup | .decode => true
  | .cmdReserved => false

end Sys2Proof
end

