-- ==== Sys2Proof/Decode.lean ====
section
/-!
DEFINITION. The decoder and the encoder of the three formats (30_encoding R91 to R96, R105).
The decoder is total on any bytes and rejects by name; every 24-bit header, every 5-bit rate and every command word decodes.
-/

namespace Sys2Proof

/-- Why bytes are no instruction of a format. -/
inductive DecodeError where
  /-- Fewer than three bytes for a cycle header (40_cycle_header R120). -/
  | shortHeader
  /-- No byte for a rate field. -/
  | missingRate
  /-- A byte that no 5-bit rate field can hold. -/
  | rateTooWide
  /-- No byte for a command word. -/
  | missingCommand
deriving DecidableEq, Repr

/-- The diff flag, `headerInfo[7:6]` (30_encoding R92). -/
def hdrDiff (info : Byte) : BitVec 2 := info.extractLsb' 6 2

/-- The template flag, `headerInfo[5]` (30_encoding R92). -/
def hdrTmpl (info : Byte) : BitVec 1 := info.extractLsb' 5 1

/-- `rateFull = headerInfo[4:0]` (30_encoding R92, R96). -/
def hdrRateFull (info : Byte) : BitVec 5 := info.extractLsb' 0 5

/-- `k = hdrNum[7:0]`, the log2 sample count of a diff header (30_encoding R94). -/
def hdrLog2 (num : BitVec 16) : BitVec 8 := num.extractLsb' 0 8

/-- `rateErr = hdrNum[12:8]` of a diff header (30_encoding R94). -/
def hdrRateErr (num : BitVec 16) : BitVec 5 := num.extractLsb' 8 5

/-- `NUM_BYTE_ORDER` (20_memory R68, D1): the byte at the lower stream position is bits 7:0 of `hdrNum`. -/
def numByteOrder (b1 b2 : Byte) : BitVec 16 := b2 ++ b1

/-- The cycle a header selects (30_encoding R95): the diff flag first, then the template flag. -/
def decodeHeader (info : Byte) (num : BitVec 16) : Instr :=
  match (hdrDiff info).toNat with
  | 0 => if hdrTmpl info = 1#1 then .template (hdrRateFull info) num else .delta (hdrRateFull info) num
  | 1 => .diff1 (hdrRateFull info) (hdrRateErr num) (hdrLog2 num)
  | 2 => .diff2 (hdrRateFull info) (hdrRateErr num) (hdrLog2 num)
  | _ => .diff3 (hdrRateFull info) (hdrRateErr num) (hdrLog2 num)

/-- The unpacker row a 5-bit rate field selects (41_bitrate_unpack R140; the illegal rates: 30_encoding R101). -/
def decodeRate (r : BitVec 5) : Instr :=
  match r.toNat with
  | 0 => .unpack0
  | 1 => .unpack1
  | 2 => .unpack2
  | 3 => .unpack3
  | 4 => .unpack4
  | 5 => .unpack5
  | 6 => .unpack6
  | 7 => .unpack7
  | 8 => .unpack8
  | 9 => .unpack9
  | 10 => .unpack10
  | 11 => .unpack11
  | 12 => .unpack12
  | 13 => .unpack13
  | 14 => .unpack14
  | 15 => .unpack15
  | 16 => .unpack16
  | 17 => .unpackIll17
  | 18 => .unpackIll18_19 0#1
  | 19 => .unpackIll18_19 1#1
  | 20 => .unpackIll20_23 0#2
  | 21 => .unpackIll20_23 1#2
  | 22 => .unpackIll20_23 2#2
  | 23 => .unpackIll20_23 3#2
  | _ => .unpackIll24_31 (r.extractLsb' 0 3)

/-- The command of a word written to `CMD`: bits 1:0, the others ignored (10_state R34, 30_encoding R105). -/
def decodeCommand (w : Word) : Instr :=
  match (w.extractLsb' 0 2).toNat with
  | 0 => .reset
  | 1 => .setup
  | 2 => .decode
  | _ => .cmdReserved

/-- The decoder of a byte sequence in a format: the instruction and the bytes after it. -/
def decode : Format → List Byte → Except DecodeError (Instr × List Byte)
  | .hdr, b0 :: b1 :: b2 :: rest => .ok (decodeHeader b0 (numByteOrder b1 b2), rest)
  | .hdr, _ => .error .shortHeader
  | .rate, b :: rest =>
    if b.extractLsb' 5 3 = 0#3 then .ok (decodeRate (b.extractLsb' 0 5), rest) else .error .rateTooWide
  | .rate, [] => .error .missingRate
  | .cmd, b :: rest => .ok (decodeCommand (b.setWidth 32), rest)
  | .cmd, [] => .error .missingCommand

/-- The header bytes of a non-diff cycle (30_encoding R91 to R93). -/
def encodeLiteral (tmpl : BitVec 1) (rate : BitVec 5) (n : BitVec 16) : List Byte :=
  [0#2 ++ tmpl ++ rate, n.extractLsb' 0 8, n.extractLsb' 8 8]

/-- The header bytes of a diff cycle (30_encoding R91, R92, R94); the ignored bits are zeros, as the notation of R106 assembles
them (log entry 18). -/
def encodeDiff (flag : BitVec 2) (rateFull rateErr : BitVec 5) (k : BitVec 8) : List Byte :=
  [flag ++ 0#1 ++ rateFull, k, 0#3 ++ rateErr]

/-- The byte that holds a rate field in its low five bits. -/
def encodeRate (r : BitVec 5) : List Byte := [0#3 ++ r]

/-- The byte that holds a command code in its low two bits (30_encoding R105); the ignored bits are zeros (log entry 18). -/
def encodeOp (op : BitVec 2) : List Byte := [0#6 ++ op]

/-- The bytes of an instruction in its format. -/
def encode : Instr → List Byte
  | .template rate n => encodeLiteral 1#1 rate n
  | .delta rate n => encodeLiteral 0#1 rate n
  | .diff1 rateFull rateErr k => encodeDiff 1#2 rateFull rateErr k
  | .diff2 rateFull rateErr k => encodeDiff 2#2 rateFull rateErr k
  | .diff3 rateFull rateErr k => encodeDiff 3#2 rateFull rateErr k
  | .unpack0 => encodeRate 0#5
  | .unpack1 => encodeRate 1#5
  | .unpack2 => encodeRate 2#5
  | .unpack3 => encodeRate 3#5
  | .unpack4 => encodeRate 4#5
  | .unpack5 => encodeRate 5#5
  | .unpack6 => encodeRate 6#5
  | .unpack7 => encodeRate 7#5
  | .unpack8 => encodeRate 8#5
  | .unpack9 => encodeRate 9#5
  | .unpack10 => encodeRate 10#5
  | .unpack11 => encodeRate 11#5
  | .unpack12 => encodeRate 12#5
  | .unpack13 => encodeRate 13#5
  | .unpack14 => encodeRate 14#5
  | .unpack15 => encodeRate 15#5
  | .unpack16 => encodeRate 16#5
  | .unpackIll17 => encodeRate 17#5
  | .unpackIll18_19 low => encodeRate (9#4 ++ low)
  | .unpackIll20_23 low => encodeRate (5#3 ++ low)
  | .unpackIll24_31 low => encodeRate (3#2 ++ low)
  | .reset => encodeOp 0#2
  | .setup => encodeOp 1#2
  | .decode => encodeOp 2#2
  | .cmdReserved => encodeOp 3#2

/-- The format of a word of `nbits` bits of spec/opcode_table.json. A 24-bit row is a header, a 5-bit row a rate field, a
2-bit row a command. In one byte the rate rows 0 to 3 and the command rows are the same bits (log entry 10): DESIGN CHOICE,
a byte below 4, or one that no 5-bit rate field can hold, is a command; the others are rate fields. -/
def tableFormat (nbits w : Nat) : Format :=
  if 8 < nbits then .hdr
  else if nbits = 5 then .rate
  else if nbits = 2 then .cmd
  else if w < 4 then .cmd
  else if w < 32 then .rate
  else .cmd

/-- The bytes of a table word, the first at the lowest stream position. -/
def tableBytes (nbits w : Nat) : List Byte :=
  match tableFormat nbits w with
  | .hdr => [BitVec.ofNat 8 w, BitVec.ofNat 8 (w / 256), BitVec.ofNat 8 (w / 65536)]
  | .rate => [BitVec.ofNat 8 w]
  | .cmd => [BitVec.ofNat 8 w]

/-- The instruction the decoder reads from a word of the opcode table. -/
def decodeTableWord (nbits w : Nat) : Option Instr :=
  match decode (tableFormat nbits w) (tableBytes nbits w) with
  | .ok (i, _) => some i
  | .error _ => none

end Sys2Proof
end

