-- ==== Sys2Proof/Machine/State.lean ====
section
/-!
DEFINITION. The state of the machine (10_state R20 to R39), its value after power-on reset, and the reasons a step can stop.
-/

namespace Sys2Proof.Machine

/-- The register `state` (10_state R21). -/
inductive RunState where
  /-- `Idle`, value 0: a command is accepted. -/
  | idle
  /-- `Active`, value 1: a DECODE runs. -/
  | active
deriving DecidableEq, Repr

/-- Where an Active core stands in the DECODE loop: the model's own program point (log entry 7). -/
inductive Phase where
  /-- At the loop tests of 43_loop_control R190, before a block. -/
  | blockTest
  /-- Inside a block, at the test of the cycle loop of R193. -/
  | cycle
  /-- Inside a cycle, at the StreamRead of a FetchUnpack (44_reconstruct R210) that waits for its bytes (20_memory R64). -/
  | payload
deriving DecidableEq, Repr

/-- The packed run a FetchUnpack reads (44_reconstruct R212, R213, R216). -/
inductive SubStream where
  /-- The samples of a template cycle, unpacked into `base`. -/
  | template
  /-- The residual of a delta cycle, unpacked into `work`. -/
  | delta
  /-- The anchors of a diff cycle, unpacked into `work`. -/
  | anchors
  /-- The error residual of a diff cycle, unpacked into `work`. -/
  | error
deriving DecidableEq, Repr

/-- The operands of the FetchUnpack in progress (44_reconstruct R210); the model's own (log entry 7). -/
structure Job where
  /-- Which run is read. -/
  sub : SubStream
  /-- `rateFull` of the cycle. -/
  rateFull : BitVec 5
  /-- `rateErr` of the cycle; 0 in a template or delta cycle. -/
  rateErr : BitVec 5
  /-- The sample count of the cycle. -/
  n : Nat
deriving DecidableEq, Repr

/-- One access of the host at the register port (10_state R34, 20_memory R79); addresses are word addresses. -/
inductive PortReq where
  /-- A read of the register at a word address. -/
  | read (addr : Nat)
  /-- A write of a word to the register at a word address. -/
  | write (addr : Nat) (data : Word)
deriving DecidableEq, Repr

/-- The samples of one destination channel that the core has written (20_memory R65), as (sample index, pattern) pairs with
indices strictly rising. An index that is not listed holds what the host left there: the core does not know it (log entry 6). -/
abbrev DstMem := List (Nat × Word)

/-- Indices strictly rise: the canonical form of a destination channel. -/
def DstMem.wf : DstMem → Bool
  | [] => true
  | [_] => true
  | (a, _) :: (b, w) :: rest => decide (a < b) && DstMem.wf ((b, w) :: rest)

/-- The state of the machine. Each field names its rule; fields marked (model) are the model's own. -/
structure State where
  /-- `state` (10_state R21). -/
  state : RunState
  /-- `ready` (10_state R22). -/
  ready : Bool
  /-- `readIndex` (10_state R23). -/
  readIndex : Cursor
  /-- `indexInBlock` (10_state R24). -/
  indexInBlock : Cursor
  /-- `readOffset` (10_state R25). -/
  readOffset : Cursor
  /-- `reqSamples` (10_state R26). -/
  reqSamples : Cursor
  /-- `numCh` (10_state R26). -/
  numCh : BitVec 2
  /-- `destCap` (10_state R26). -/
  destCap : Cursor
  /-- `chan` (10_state R26). -/
  chan : BitVec 1
  /-- `numTodo` (10_state R26). -/
  numTodo : Cursor
  /-- `hdrInfo` (10_state R28). -/
  hdrInfo : Byte
  /-- `hdrNum` (10_state R28). -/
  hdrNum : BitVec 16
  /-- `status` (10_state R29). -/
  status : BitVec 4
  /-- `produced` (10_state R29). -/
  produced : Cursor
  /-- `fault` (10_state R29). -/
  fault : BitVec 4
  /-- `base` (10_state R30): 4096 samples while allocated, none while released. -/
  base : List Sample
  /-- `work` (10_state R31): 4096 samples while allocated, none while released. -/
  work : List Sample
  /-- `stage` (10_state R32): 8192 bytes while allocated, none while released. -/
  stage : List Byte
  /-- `ARG_OFFSET` (10_state R34). -/
  argOffset : Cursor
  /-- `ARG_NUMSAMPLES` (10_state R34). -/
  argNumSamples : Cursor
  /-- `ARG_NUMCH` bits 1:0; the other bits are ignored (10_state R34). -/
  argNumCh : BitVec 2
  /-- `ARG_DESTCAP` (10_state R34). -/
  argDestCap : Cursor
  /-- `PERF_ENABLE` (60_exceptions R260): fixed when the hardware is built; no step changes it (log entry 4). -/
  perfEnable : Bool
  /-- `perfHist` (10_state R36), oldest sample first. -/
  perfHist : List Word
  /-- `perfRatio` (10_state R36). -/
  perfRatio : Word
  /-- The bytes of the bound input stream from `spos` on that the host has supplied (20_memory R61). -/
  stream : List Byte
  /-- `spos` (10_state R27). -/
  spos : Nat
  /-- The host has declared the end of the stream (20_memory R64, `in_eos` of R79). -/
  streamEnded : Bool
  /-- Channel 0 of the destination (20_memory R65). -/
  dst0 : DstMem
  /-- Channel 1 of the destination (20_memory R65). -/
  dst1 : DstMem
  /-- (model) The program point of an Active core. -/
  phase : Phase
  /-- (model) The operands of the FetchUnpack in progress. -/
  job : Job
  /-- (model) The register access the host has presented. -/
  port : Option PortReq
  /-- (model) The word the last register read returned. -/
  portData : Word
  /-- (model) How many free values have been drawn. -/
  draws : Nat
deriving DecidableEq, Repr

/-- Why the machine stops with a fault. Neither is reachable from a state of the invariant (Safety.lean). -/
inductive Fault where
  /-- Raised by `State.convertRun` where a DstWrite would fall outside the destination's channels or capacity: such an address
  does not exist (20_memory R66). Safe: the model stops. -/
  | dstOutOfBounds
  /-- Raised by `State.unpack` where a buffer is used while `ready = 0`: the buffers are inaccessible (10_state R30, R39).
  Safe: the model stops. -/
  | buffersReleased
deriving DecidableEq, Repr

/-- Why the model gives an action no meaning. -/
inductive Refusal where
  /-- Raised by an arm of `exec` for an instruction without a meaning; no arm does. Safe. -/
  | notModelled (mnemonic : String)
  /-- Raised by `State.writeRegister` for a write to an `ARG_*` register while Active (93_implementation_defined U5). Safe. -/
  | argWriteWhileActive
  /-- Raised by `hostInput` where the host changes the bound stream during a DECODE (93_implementation_defined U6). Safe. -/
  | streamInterference
  /-- Raised by `hostInput` where the host changes the destination during a DECODE (93_implementation_defined U6). Safe. -/
  | destInterference
  /-- Raised by `hostInput` where the host presents a register access before the last one is served (log entry 8). Safe. -/
  | portBusy
deriving DecidableEq, Repr

/-- The machine right after power-on reset (10_state R39, 70_reset_and_hazards R270), with no stream and no destination bound. -/
def State.reset : State where
  state := .idle
  ready := false
  readIndex := 0#Config.cntW
  indexInBlock := 0#Config.cntW
  readOffset := 0#Config.cntW
  reqSamples := 0#Config.cntW
  numCh := 0#2
  destCap := 0#Config.cntW
  chan := 0#1
  numTodo := 0#Config.cntW
  hdrInfo := 0#8
  hdrNum := 0#16
  status := 0#4
  produced := 0#Config.cntW
  fault := 0#4
  base := []
  work := []
  stage := []
  argOffset := 0#Config.cntW
  argNumSamples := 0#Config.cntW
  argNumCh := 0#2
  argDestCap := 0#Config.cntW
  perfEnable := false
  perfHist := []
  perfRatio := 0#32
  stream := []
  spos := 0
  streamEnded := false
  dst0 := []
  dst1 := []
  phase := .blockTest
  job := ⟨.template, 0#5, 0#5, 0⟩
  port := none
  portData := 0#32
  draws := 0

/-- What a step or a meaning answers. -/
abbrev Result := Host.Outcome State Fault Refusal

/-- What a `StreamRead` answers (20_memory R63, R64). -/
inductive Fetched where
  /-- The host has supplied too few bytes and has not declared the end: the read has no step yet. -/
  | waiting
  /-- A short read: all bytes that remained are consumed and none is used. -/
  | short (s : State)
  /-- The bytes asked for, and the state in which they are consumed. -/
  | got (bytes : List Byte) (s : State)
deriving DecidableEq, Repr

end Sys2Proof.Machine
end

