-- ==== Sys2Proof/Machine/Operands.lean ====
section
/-!
DEFINITION. What the rules compute from header fields, payload bits and samples: header accessors (40_cycle_header R121 to
R124), payload lengths (41_bitrate_unpack R141, 30_encoding R97), unpacking (R143), the reconstruction arithmetic
(44_reconstruct R213 to R216) and the int16-to-float conversion (45_float_convert R231).
-/

namespace Sys2Proof.Machine

/-- `getBitRate(fullRate)` (40_cycle_header R123). -/
def getBitRate (info : Byte) (num : BitVec 16) (fullRate : Bool) : BitVec 5 :=
  if hdrDiff info ≠ 0#2 ∧ fullRate = false then hdrRateErr num else hdrRateFull info

/-- `getNumSamples` (40_cycle_header R124), an unbounded integer. -/
def getNumSamples (info : Byte) (num : BitVec 16) : Nat :=
  if hdrDiff info ≠ 0#2 then 1 <<< (hdrLog2 num).toNat else num.toNat

/-- The sample count of a non-diff header, if legal (43_loop_control R194 step 4). -/
def literalCount (n : BitVec 16) : Option Nat :=
  if n.toNat = 0 ∨ Config.block < n.toNat then none else some n.toNat

/-- The sample count of a diff header, if legal (43_loop_control R194 step 4): the shift is formed only for `k <= 12`. -/
def log2Count (k : BitVec 8) : Option Nat :=
  if Config.maxLog2 < k.toNat then none else some (1 <<< k.toNat)

/-- `byteAmount(r, c)` (41_bitrate_unpack R141). -/
def byteAmount (r c : Nat) : Nat := (r * c + 7) / 8

/-- `NumAnchors(n)` (44_reconstruct R214). -/
def numAnchors (n : Nat) : Nat := (n + (Config.anchorStride - 1)) / Config.anchorStride

/-- The payload length of a cycle (30_encoding R97); commands and rate fields have none. -/
def payloadLength : Instr → Nat
  | .template rate n | .delta rate n => byteAmount rate.toNat n.toNat
  | .diff1 rateFull rateErr k | .diff2 rateFull rateErr k | .diff3 rateFull rateErr k =>
    byteAmount rateFull.toNat (numAnchors (1 <<< k.toNat))
      + if 0 < rateErr.toNat then byteAmount rateErr.toNat (1 <<< k.toNat) else 0
  | .unpack0 | .unpack1 | .unpack2 | .unpack3 | .unpack4 | .unpack5 | .unpack6 | .unpack7 | .unpack8
  | .unpack9 | .unpack10 | .unpack11 | .unpack12 | .unpack13 | .unpack14 | .unpack15 | .unpack16
  | .unpackIll17 | .unpackIll18_19 _ | .unpackIll20_23 _ | .unpackIll24_31 _
  | .reset | .setup | .decode | .cmdReserved => 0

/-- Payload bit `t` (20_memory R69, `BIT_ORDER`): bit `t mod 8` of byte `t div 8`. -/
def payloadBit (src : List Byte) (t : Nat) : Bool := (src.getD (t / 8) 0).getLsbD (t % 8)

/-- The `width`-bit packed field whose least significant bit is payload bit `start` (41_bitrate_unpack R143). -/
def packedField (src : List Byte) (start : Nat) : Nat → Nat
  | 0 => 0
  | width + 1 => packedField src start width + (payloadBit src (start + width)).toNat * 2 ^ width

/-- `sext_16(f)` of an `r`-bit field, `1 <= r <= 16` (00_scope R8, `SIGN_RULE`). -/
def signExtendField (r f : Nat) : Sample :=
  if f < 2 ^ (r - 1) then BitVec.ofNat 16 f else BitVec.ofInt 16 ((f : Int) - 2 ^ r)

/-- Value `i` of a packed run at rate `r` (41_bitrate_unpack R143). -/
def unpackValue (r : Nat) (src : List Byte) (i : Nat) : Sample :=
  if r = 0 then 0#16 else signExtendField r (packedField src (i * r) r)

/-- `Unpack(r, c, src, _)` (41_bitrate_unpack R143): the `c` values of a packed run. -/
def unpackRun (r c : Nat) (src : List Byte) : List Sample := (List.range c).map (unpackValue r src)

/-- `wrap16` (00_scope R8). -/
def wrap16 (x : Int) : Sample := BitVec.ofInt 16 x

/-- The int16 addition of the reconstructor (44_reconstruct R219): the exact sum, wrapped. -/
def addSample (a b : Sample) : Sample := wrap16 (a.toInt + b.toInt)

/-- The element-wise addition of two runs (44_reconstruct R213, R216). -/
def addRun (a b : List Sample) : List Sample := List.zipWith addSample a b

/-- `Dist(n)` (44_reconstruct R215): zero-order hold of the anchors. -/
def holdAnchors (anchors : List Sample) (n : Nat) : List Sample :=
  (List.range n).map fun j => anchors.getD (j / Config.anchorStride) 0

/-- The position of the highest set bit of `a`, looked for at bit `p` and below (45_float_convert R231). -/
def topBit (a : Nat) : Nat → Nat
  | 0 => 0
  | p + 1 => if 2 ^ (p + 1) ≤ a then p + 1 else topBit a p

/-- `I16toF32(v)` (45_float_convert R231): sign, biased exponent `112 + p` and 23-bit fraction of `v * 2^-15`. -/
def i16ToF32 (v : Sample) : Word :=
  if v = 0#16 then 0#32
  else
    let s : Nat := if v.toInt < 0 then 1 else 0
    let a := v.toInt.natAbs
    let p := topBit a 15
    BitVec.ofNat 32 (s <<< 31 ||| (112 + p) <<< 23 ||| (a - 2 ^ p) <<< (23 - p))

/-- `dst[0 .. length vals - 1] <- vals`; the entries above keep their contents (44_reconstruct R218). -/
def overwrite {α : Type} (vals buf : List α) : List α := vals ++ buf.drop vals.length

/-- The rate of the run in progress: the error rate for the error sub-stream, else the full rate. -/
def Job.rate (j : Job) : BitVec 5 :=
  match j.sub with
  | .template | .delta | .anchors => j.rateFull
  | .error => j.rateErr

/-- The value count of the run in progress: the anchors for the full sub-stream of a diff cycle, else the samples. -/
def Job.count (j : Job) : Nat :=
  match j.sub with
  | .template | .delta | .error => j.n
  | .anchors => numAnchors j.n

end Sys2Proof.Machine
end

