-- ==== Sys2Proof/Machine/Flags.lean ====
section
/-!
DEFINITION. The condition codes of the latched header (10_state R28), the error codes (60_exceptions R240) and the packing of
the `STATUS` register (10_state R34). The core has no arithmetic flags (R29).
-/

namespace Sys2Proof.Machine

/-- `isDiff` (40_cycle_header R121). -/
def State.isDiff (s : State) : Bool := decide (hdrDiff s.hdrInfo ≠ 0#2)

/-- `isTemplate` (40_cycle_header R122): bit 5, whatever the diff flag holds. -/
def State.isTemplate (s : State) : Bool := decide (hdrTmpl s.hdrInfo = 1#1)

/-- `rateFull` of the latched header (10_state R28). -/
def State.rateFull (s : State) : BitVec 5 := getBitRate s.hdrInfo s.hdrNum true

/-- `getBitRate(false)` of the latched header (40_cycle_header R123): `rateErr` of a diff header. -/
def State.rateErr (s : State) : BitVec 5 := getBitRate s.hdrInfo s.hdrNum false

/-- The sample count of the latched header (40_cycle_header R124). -/
def State.numSamples (s : State) : Nat := getNumSamples s.hdrInfo s.hdrNum

/-- The error codes (60_exceptions R240). -/
inductive ErrorCode where
  | ok
  | streamExhausted
  | offsetMismatch
  | bitRate
  | sampleCount
  | cursorOverflow
  | notSetUp
  | badRequest
  | faulted
deriving DecidableEq, Repr

/-- The number of an error code in `status` (60_exceptions R240); 9 to 15 are never produced. -/
def ErrorCode.code : ErrorCode → BitVec 4
  | .ok => 0#4
  | .streamExhausted => 1#4
  | .offsetMismatch => 2#4
  | .bitRate => 3#4
  | .sampleCount => 4#4
  | .cursorOverflow => 5#4
  | .notSetUp => 6#4
  | .badRequest => 7#4
  | .faulted => 8#4

/-- The structural errors, codes 3 to 5: the ones that latch `fault` (60_exceptions R240, R250). -/
def ErrorCode.structural : ErrorCode → Bool
  | .bitRate | .sampleCount | .cursorOverflow => true
  | .ok | .streamExhausted | .offsetMismatch | .notSetUp | .badRequest | .faulted => false

/-- The bit of `state` in `STATUS` (10_state R21). -/
def RunState.bit : RunState → BitVec 1
  | .idle => 0#1
  | .active => 1#1

/-- The register `STATUS` (10_state R34): `status` in bits 11:8, `fault` in bits 7:4, `ready` in bit 1, `state` in bit 0. -/
def State.statusWord (s : State) : Word :=
  0#20 ++ s.status ++ s.fault ++ 0#2 ++ BitVec.ofBool s.ready ++ s.state.bit

end Sys2Proof.Machine
end

