-- ==== Sys2Proof/Machine/Ops.lean ====
section
/-!
DEFINITION. The named operations over the stream, the destination, the buffers and the session registers, and the abort rule:
the one way an error is taken (60_exceptions R250). There is no return from it (R253): the command ends and the core is Idle.
-/

namespace Sys2Proof.Machine

/-! ### Sequencing results -/

/-- Runs `f` after a result that is a next state; a fault or a refusal ends the operation. -/
def andThen (r : Result) (f : State → Result) : Result :=
  match r with
  | .next s => f s
  | .fault e => .fault e
  | .refused e => .refused e

/-! ### The input stream (20_memory R61 to R64) -/

/-- At least `n` bytes stand in the list. -/
def hasBytes (n : Nat) (l : List Byte) : Bool :=
  match n with
  | 0 => true
  | m + 1 => !(l.drop m).isEmpty

/-- `StreamAtEnd()` (20_memory R62); `none` while the host has neither supplied a byte nor declared the end (R64). -/
def State.streamAtEnd (s : State) : Option Bool :=
  if s.stream.isEmpty = false then some false
  else if s.streamEnded then some true
  else none

/-- `m` bytes are consumed: the position moves forward by `m` (20_memory R63). -/
def State.consume (m : Nat) (s : State) : State := { s with stream := s.stream.drop m, spos := s.spos + m }

/-- `StreamRead(n)` (20_memory R63). A short read, possible only once the end is declared, consumes what remains. -/
def State.streamRead (n : Nat) (s : State) : Fetched :=
  if hasBytes n s.stream then .got (s.stream.take n) (s.consume n)
  else if s.streamEnded then .short (s.consume s.stream.length)
  else .waiting

/-! ### The destination (20_memory R65 to R67) -/

/-- The pattern the core has written at a sample index; `none` where it has written nothing. -/
def DstMem.read : DstMem → Nat → Option Word
  | [], _ => none
  | (a, v) :: rest, i => if i = a then some v else DstMem.read rest i

/-- The one store into a destination channel (20_memory R66), keeping the canonical form. -/
def DstMem.write : DstMem → Nat → Word → DstMem
  | [], i, f => [(i, f)]
  | (a, v) :: rest, i, f =>
    if i < a then (i, f) :: (a, v) :: rest
    else if i = a then (i, f) :: rest
    else (a, v) :: DstMem.write rest i f

/-- Stores at ascending indices from `i` on (20_memory R67). -/
def DstMem.writeRun (m : DstMem) (i : Nat) : List Word → DstMem
  | [] => m
  | f :: fs => DstMem.writeRun (m.write i f) (i + 1) fs

/-- The pattern the core has written at `DST[c][i]` (20_memory R65); `none` where it has written nothing. -/
def State.dstRead (s : State) (c : BitVec 1) (i : Nat) : Option Word :=
  if c = 0#1 then s.dst0.read i else s.dst1.read i

/-- The write position `readIndex + indexInBlock` (20_memory R67). -/
def State.writePos (s : State) : Nat := s.readIndex.toNat + s.indexInBlock.toNat

/-- `n` samples from the write position on lie inside the destination (20_memory R66). -/
def State.dstRoom (n : Nat) (s : State) : Bool :=
  decide (s.chan.toNat < s.numCh.toNat) && decide (s.writePos + n ≤ s.destCap.toNat)

/-- The `n` samples of a cycle are converted and written at the write position, and the cursor advances (44_reconstruct R211,
20_memory R67). A write outside the destination, which cannot occur (R66), faults. -/
def State.convertRun (n : Nat) (samples : List Sample) (s : State) : Result :=
  if s.dstRoom n then
    .next { s with
      dst0 := if s.chan = 0#1 then s.dst0.writeRun s.writePos (samples.map i16ToF32) else s.dst0
      dst1 := if s.chan = 0#1 then s.dst1 else s.dst1.writeRun s.writePos (samples.map i16ToF32)
      indexInBlock := s.indexInBlock + BitVec.ofNat Config.cntW n
      phase := .cycle }
  else .fault .dstOutOfBounds

/-- `ConvertWrite(n)` (44_reconstruct R211): the samples are those of `base`. -/
def State.convertWrite (n : Nat) (s : State) : Result := s.convertRun n (s.base.take n)

/-! ### Header, buffers and the FetchUnpack in progress -/

/-- The header is latched (40_cycle_header R120). -/
def State.latchHeader (info : Byte) (num : BitVec 16) (s : State) : State := { s with hdrInfo := info, hdrNum := num }

/-- `ReadCycleHeader()` (40_cycle_header R120). A short read leaves the latched header. -/
def State.readCycleHeader (s : State) : Fetched :=
  match s.streamRead Config.hdrBytes with
  | .waiting => .waiting
  | .short t => .short t
  | .got b t => .got b (t.latchHeader (b.getD 0 0) (numByteOrder (b.getD 1 0) (b.getD 2 0)))

/-- `base[0 ..] <- vals`. -/
def State.setBase (vals : List Sample) (s : State) : State := { s with base := overwrite vals s.base }

/-- `work[0 ..] <- vals`. -/
def State.setWork (vals : List Sample) (s : State) : State := { s with work := overwrite vals s.work }

/-- `stage[0 ..] <- bytes`. -/
def State.setStage (bytes : List Byte) (s : State) : State := { s with stage := overwrite bytes s.stage }

/-- A FetchUnpack begins: its operands are latched, and the core stands at its StreamRead. -/
def State.startJob (j : Job) (s : State) : State := { s with job := j, phase := .payload }

/-- The values the unpacker of rate `r` makes of the staged bytes, `count` of them (41_bitrate_unpack R142, R143). -/
def State.unpacked (r : Nat) (s : State) : List Sample := unpackRun r s.job.count s.stage

/-- The unpacker of rate `r` at work: it reads `stage` and writes the target of the run in progress, and nothing else
(41_bitrate_unpack R142). A released buffer is inaccessible (10_state R30). -/
def State.unpack (r : Nat) (s : State) : Result :=
  if s.ready then
    .next (match s.job.sub with
      | .template => s.setBase (s.unpacked r)
      | .delta | .anchors | .error => s.setWork (s.unpacked r))
  else .fault .buffersReleased

/-! ### Ending a command -/

/-- `FinishBlock()` (43_loop_control R195). -/
def State.finishBlock (s : State) : State :=
  { s with readIndex := if s.chan.toNat + 1 = s.numCh.toNat then s.readIndex + s.indexInBlock else s.readIndex }

/-- One sample more in the rolling history, the oldest dropped where it is full (60_exceptions R258). -/
def pushThroughput (hist : List Word) (t : Word) : List Word :=
  (if hist.length < Config.histDepth then hist else hist.drop 1) ++ [t]

/-- The arithmetic mean of the history (60_exceptions R258, R259): of one sample that sample, of more a free value. -/
def meanThroughput : List Word → Word
  | [] => 0#32
  | [t] => t
  | t :: u :: rest => Config.throughputMean (t :: u :: rest)

/-- The throughput sample of the command that ends now, a free draw (60_exceptions R258). -/
def State.throughput (s : State) : Word := Config.throughputSample s.draws

/-- The recording of `Return()` (60_exceptions R258): nothing where `PERF_ENABLE = 0`. -/
def State.recordThroughput (s : State) : State :=
  { s with
    perfHist := if s.perfEnable then pushThroughput s.perfHist s.throughput else s.perfHist
    perfRatio := if s.perfEnable then meanThroughput (pushThroughput s.perfHist s.throughput) else s.perfRatio
    draws := if s.perfEnable then s.draws + 1 else s.draws }

/-- `Return()` (43_loop_control R197). -/
def State.returnToHost (s : State) : State :=
  { s.recordThroughput with
    produced := s.readIndex
    readOffset := s.readOffset + s.readIndex
    state := .idle
    phase := .blockTest }

/-- `status <- code`, and `fault <- code` for the first structural error (60_exceptions R250). -/
def State.setError (e : ErrorCode) (s : State) : State :=
  { s with
    status := e.code
    fault := if e.structural = true ∧ s.fault = 0#4 then e.code else s.fault }

/-- `Abort(code)` (60_exceptions R250): taking an error inside a DECODE. -/
def State.abort (e : ErrorCode) (s : State) : State := ((s.setError e).finishBlock).returnToHost

/-- An error at the entry of a command (60_exceptions R251): `status` and `produced` change, and nothing else. -/
def State.refuseEntry (e : ErrorCode) (s : State) : State := { s with status := e.code, produced := 0#Config.cntW }

/-! ### The buffers' allocation -/

/-- Unspecified contents of `stage` (10_state R39), drawn afresh: byte `i` and the `len - 1` after it. -/
def freeStage (d i : Nat) : Nat → List Byte
  | 0 => []
  | len + 1 => Config.freeStageByte d i :: freeStage d (i + 1) len

/-- All cursors and request registers at zero, the fault and the result cleared, the throughput history empty: what SETUP and
RESET share (42_session_commands R172, R173). -/
def State.clearSession (s : State) : State :=
  { s with
    readIndex := 0#Config.cntW
    indexInBlock := 0#Config.cntW
    readOffset := 0#Config.cntW
    chan := 0#1
    reqSamples := 0#Config.cntW
    numCh := 0#2
    destCap := 0#Config.cntW
    numTodo := 0#Config.cntW
    fault := 0#4
    status := ErrorCode.ok.code
    produced := 0#Config.cntW
    perfHist := []
    perfRatio := 0#32 }

/-- The buffers allocated to the block capacity (42_session_commands R172): `base` and `work` zero-filled, `stage` of
unspecified contents (10_state R39). -/
def State.allocate (s : State) : State :=
  { s with
    ready := true
    base := List.replicate Config.block 0#16
    work := List.replicate Config.block 0#16
    stage := freeStage s.draws 0 Config.stageBytes
    draws := s.draws + 1 }

/-- The buffers released to zero length (42_session_commands R173, 10_state R22). -/
def State.release (s : State) : State := { s with ready := false, base := [], work := [], stage := [] }

end Sys2Proof.Machine
end

