-- ==== Sys2Proof/Machine/Commands.lean ====
section
/-!
DEFINITION. The session commands (42_session_commands): `RESET`, `SETUP`, `DECODE` (its entry; the loop it starts is
Machine/LoopControl.lean, one step at a time) and the reserved command code.
-/

namespace Sys2Proof.Machine

/-- `RESET` (42_session_commands R173). -/
def execReset (s : State) : Result := .next s.release.clearSession

/-- `SETUP` (42_session_commands R172). -/
def execSetup (s : State) : Result := .next s.allocate.clearSession

/-- The resolved request (42_session_commands R174 step 5): a negative `numSamples` means the destination's capacity. -/
def State.resolvedRequest (s : State) : Cursor :=
  if s.argNumSamples.toInt < 0 then s.argDestCap else s.argNumSamples

/-- The entry checks of DECODE in their order (42_session_commands R174 steps 1 to 7). -/
def State.entryError (s : State) : Option ErrorCode :=
  if s.fault ≠ 0#4 then some .faulted
  else if s.ready = false then some .notSetUp
  else if ¬ (s.argNumCh = 1#2 ∨ s.argNumCh = 2#2) then some .badRequest
  else if Config.destCapLimit ≤ s.argDestCap.toNat then some .badRequest
  else if s.argDestCap.toNat < s.resolvedRequest.toNat then some .badRequest
  else if s.argOffset ≠ s.readOffset then some .offsetMismatch
  else none

/-- Step 8 of the entry (42_session_commands R174) and the first two lines of the loop (43_loop_control R190). -/
def State.startDecode (s : State) : State :=
  { s with
    numCh := s.argNumCh
    destCap := s.argDestCap
    reqSamples := s.resolvedRequest
    state := .active
    readIndex := 0#Config.cntW
    chan := 0#1
    indexInBlock := 0#Config.cntW
    status := ErrorCode.ok.code
    phase := .blockTest }

/-- `DECODE` (42_session_commands R174): the entry checks, then the loop of 43_loop_control R190 begins. -/
def execDecode (s : State) : Result :=
  match s.entryError with
  | some e => .next (s.refuseEntry e)
  | none => .next s.startDecode

/-- The reserved command code 3 (42_session_commands R171). -/
def execCmdReserved (s : State) : Result := .next (s.refuseEntry .badRequest)

end Sys2Proof.Machine
end

