-- ==== Sys2Proof/Machine/Unpackers.lean ====
section
/-!
DEFINITION. The entropy decoder (41_bitrate_unpack): the meaning of each unpacker row and of the illegal rate rows, and the
selection of an unpacker by a rate (R140).
-/

namespace Sys2Proof.Machine

/-- `UNPACK0` (41_bitrate_unpack R144): zeros, for every caller. -/
def execUnpack0 (s : State) : Result := s.unpack 0

/-- `UNPACK1` (41_bitrate_unpack R145). -/
def execUnpack1 (s : State) : Result := s.unpack 1

/-- `UNPACK2` (41_bitrate_unpack R146). -/
def execUnpack2 (s : State) : Result := s.unpack 2

/-- `UNPACK3` (41_bitrate_unpack R147). -/
def execUnpack3 (s : State) : Result := s.unpack 3

/-- `UNPACK4` (41_bitrate_unpack R148). -/
def execUnpack4 (s : State) : Result := s.unpack 4

/-- `UNPACK5` (41_bitrate_unpack R149). -/
def execUnpack5 (s : State) : Result := s.unpack 5

/-- `UNPACK6` (41_bitrate_unpack R150). -/
def execUnpack6 (s : State) : Result := s.unpack 6

/-- `UNPACK7` (41_bitrate_unpack R151). -/
def execUnpack7 (s : State) : Result := s.unpack 7

/-- `UNPACK8` (41_bitrate_unpack R152). -/
def execUnpack8 (s : State) : Result := s.unpack 8

/-- `UNPACK9` (41_bitrate_unpack R153). -/
def execUnpack9 (s : State) : Result := s.unpack 9

/-- `UNPACK10` (41_bitrate_unpack R154). -/
def execUnpack10 (s : State) : Result := s.unpack 10

/-- `UNPACK11` (41_bitrate_unpack R155). -/
def execUnpack11 (s : State) : Result := s.unpack 11

/-- `UNPACK12` (41_bitrate_unpack R156). -/
def execUnpack12 (s : State) : Result := s.unpack 12

/-- `UNPACK13` (41_bitrate_unpack R157). -/
def execUnpack13 (s : State) : Result := s.unpack 13

/-- `UNPACK14` (41_bitrate_unpack R158). -/
def execUnpack14 (s : State) : Result := s.unpack 14

/-- `UNPACK15` (41_bitrate_unpack R159). -/
def execUnpack15 (s : State) : Result := s.unpack 15

/-- `UNPACK16` (41_bitrate_unpack R160). -/
def execUnpack16 (s : State) : Result := s.unpack 16

/-- The illegal rate 17 (60_exceptions R243): `MalformedHeader.BitRate`, before any payload byte is read. -/
def execUnpackIll17 (s : State) : Result := .next (s.abort .bitRate)

/-- The illegal rates 18 and 19 (60_exceptions R243). -/
def execUnpackIll18_19 (_low : BitVec 1) (s : State) : Result := .next (s.abort .bitRate)

/-- The illegal rates 20 to 23 (60_exceptions R243). -/
def execUnpackIll20_23 (_low : BitVec 2) (s : State) : Result := .next (s.abort .bitRate)

/-- The illegal rates 24 to 31 (60_exceptions R243). -/
def execUnpackIll24_31 (_low : BitVec 3) (s : State) : Result := .next (s.abort .bitRate)

/-- `selectForBitRate(rate)` (41_bitrate_unpack R140): the identity on 0 to 16. A larger rate is rejected before it is
selected (43_loop_control R194); here it is the illegal row's error. -/
def selectForBitRate (rate : BitVec 5) (s : State) : Result :=
  match decodeRate rate with
  | .unpack0 => execUnpack0 s
  | .unpack1 => execUnpack1 s
  | .unpack2 => execUnpack2 s
  | .unpack3 => execUnpack3 s
  | .unpack4 => execUnpack4 s
  | .unpack5 => execUnpack5 s
  | .unpack6 => execUnpack6 s
  | .unpack7 => execUnpack7 s
  | .unpack8 => execUnpack8 s
  | .unpack9 => execUnpack9 s
  | .unpack10 => execUnpack10 s
  | .unpack11 => execUnpack11 s
  | .unpack12 => execUnpack12 s
  | .unpack13 => execUnpack13 s
  | .unpack14 => execUnpack14 s
  | .unpack15 => execUnpack15 s
  | .unpack16 => execUnpack16 s
  | .unpackIll17 => execUnpackIll17 s
  | .unpackIll18_19 low => execUnpackIll18_19 low s
  | .unpackIll20_23 low => execUnpackIll20_23 low s
  | .unpackIll24_31 low => execUnpackIll24_31 low s
  | .template _ _ | .delta _ _ | .diff1 _ _ _ | .diff2 _ _ _ | .diff3 _ _ _
  | .reset | .setup | .decode | .cmdReserved => .next (s.abort .bitRate)

end Sys2Proof.Machine
end

