-- ==== Sys2Proof/Machine/Cycles.lean ====
section
/-!
DEFINITION. The cycles (44_reconstruct): validation of a header (43_loop_control R194 steps 2 to 5), FetchUnpack (R210), and
the meaning of `TEMPLATE`, `DELTA` and the three `DIFF` rows. A cycle whose payload the host has supplied, or whose stream has
ended, is one step; otherwise the core waits inside the FetchUnpack (20_memory R64), and `completeSub` resumes the cycle.
-/

namespace Sys2Proof.Machine

/-- The error a header raises (43_loop_control R194 steps 2 to 5), in the order of the checks: full rate, error rate (0 where
the cycle has none), sample count (`none` where it is illegal), room in the quota. -/
def State.headerError (rateFull rateErr : BitVec 5) (count : Option Nat) (s : State) : Option ErrorCode :=
  if Config.maxRate < rateFull.toNat then some .bitRate
  else if Config.maxRate < rateErr.toNat then some .bitRate
  else
    match count with
    | none => some .sampleCount
    | some n => if s.numTodo.toNat < s.indexInBlock.toNat + n then some .cursorOverflow else none

/-- `FetchUnpack(r, c, dst)` of the run in progress (44_reconstruct R210), then the rest of the cycle `k`. The core waits where
the read has no step, and aborts on a short read. An illegal rate, which validation has rejected before (43_loop_control R194),
is the illegal row's error, with no byte read (60_exceptions R243). -/
def State.fetchUnpack (unpacker k : State → Result) (s : State) : Result :=
  if Config.maxRate < s.job.rate.toNat then unpacker s
  else
  match s.streamRead (byteAmount s.job.rate.toNat s.job.count) with
  | .waiting => .next s
  | .short t => .next (t.abort .streamExhausted)
  | .got b t => andThen (unpacker (t.setStage b)) k

/-- The rest of a template cycle after its payload is unpacked into `base` (44_reconstruct R212). -/
def State.completeTemplate (s : State) : Result := s.convertWrite s.job.n

/-- The rest of a delta cycle after its residual is unpacked into `work` (44_reconstruct R213). -/
def State.completeDelta (s : State) : Result :=
  let sums := addRun (s.base.take s.job.n) (s.work.take s.job.n)
  if Config.deltaWritesBack then (s.setBase sums).convertWrite s.job.n else s.convertRun s.job.n sums

/-- The rest of a diff cycle after its error residual is unpacked into `work` (44_reconstruct R216 steps 2 and 3). -/
def State.completeError (s : State) : Result :=
  (s.setBase (addRun (s.base.take s.job.n) (s.work.take s.job.n))).convertWrite s.job.n

/-- The error sub-stream of a diff cycle (44_reconstruct R216 step 2). -/
def State.startError (s : State) : Result :=
  (s.startJob { s.job with sub := .error }).fetchUnpack (selectForBitRate s.job.rateErr) State.completeError

/-- The rest of a diff cycle after its anchors are unpacked into `work` (44_reconstruct R216 from Dist on). -/
def State.completeAnchors (s : State) : Result :=
  let t := s.setBase (holdAnchors (s.work.take (numAnchors s.job.n)) s.job.n)
  if t.job.rateErr = 0#5 then t.convertWrite t.job.n else t.startError

/-- The rest of the cycle after the run in progress is unpacked. -/
def State.completeSub (s : State) : Result :=
  match s.job.sub with
  | .template => s.completeTemplate
  | .delta => s.completeDelta
  | .anchors => s.completeAnchors
  | .error => s.completeError

/-- Validate, dispatch and run a cycle (43_loop_control R194 steps 2 to 6). -/
def State.runCycle (sub : SubStream) (rateFull rateErr : BitVec 5) (count : Option Nat) (s : State) : Result :=
  match s.headerError rateFull rateErr count with
  | some e => .next (s.abort e)
  | none =>
    (s.startJob ⟨sub, rateFull, rateErr, count.getD 0⟩).fetchUnpack (selectForBitRate rateFull) State.completeSub

/-- `TEMPLATE` (44_reconstruct R212). -/
def execTemplate (rate : BitVec 5) (n : BitVec 16) (s : State) : Result :=
  s.runCycle .template rate 0#5 (literalCount n)

/-- `DELTA` (44_reconstruct R213). -/
def execDelta (rate : BitVec 5) (n : BitVec 16) (s : State) : Result :=
  s.runCycle .delta rate 0#5 (literalCount n)

/-- `DIFF` with diff flag value 1 (44_reconstruct R216). -/
def execDiff1 (rateFull rateErr : BitVec 5) (k : BitVec 8) (s : State) : Result :=
  s.runCycle .anchors rateFull rateErr (log2Count k)

/-- `DIFF` with diff flag value 2 (44_reconstruct R216). -/
def execDiff2 (rateFull rateErr : BitVec 5) (k : BitVec 8) (s : State) : Result :=
  s.runCycle .anchors rateFull rateErr (log2Count k)

/-- `DIFF` with diff flag value 3 (44_reconstruct R216). -/
def execDiff3 (rateFull rateErr : BitVec 5) (k : BitVec 8) (s : State) : Result :=
  s.runCycle .anchors rateFull rateErr (log2Count k)

end Sys2Proof.Machine
end

