-- ==== Sys2Proof/Machine/Dispatch.lean ====
section
/-!
DEFINITION. The dispatch: each instruction and its meaning.
-/

namespace Sys2Proof.Machine

def exec (i : Instr) (s : State) : Host.Outcome State Fault Refusal :=
  match i with
  | .template rate n => Sys2Proof.Machine.execTemplate rate n s
  | .delta rate n => Sys2Proof.Machine.execDelta rate n s
  | .diff1 rateFull rateErr k => Sys2Proof.Machine.execDiff1 rateFull rateErr k s
  | .diff2 rateFull rateErr k => Sys2Proof.Machine.execDiff2 rateFull rateErr k s
  | .diff3 rateFull rateErr k => Sys2Proof.Machine.execDiff3 rateFull rateErr k s
  | .unpack0 => Sys2Proof.Machine.execUnpack0 s
  | .unpack1 => Sys2Proof.Machine.execUnpack1 s
  | .unpack2 => Sys2Proof.Machine.execUnpack2 s
  | .unpack3 => Sys2Proof.Machine.execUnpack3 s
  | .unpack4 => Sys2Proof.Machine.execUnpack4 s
  | .unpack5 => Sys2Proof.Machine.execUnpack5 s
  | .unpack6 => Sys2Proof.Machine.execUnpack6 s
  | .unpack7 => Sys2Proof.Machine.execUnpack7 s
  | .unpack8 => Sys2Proof.Machine.execUnpack8 s
  | .unpack9 => Sys2Proof.Machine.execUnpack9 s
  | .unpack10 => Sys2Proof.Machine.execUnpack10 s
  | .unpack11 => Sys2Proof.Machine.execUnpack11 s
  | .unpack12 => Sys2Proof.Machine.execUnpack12 s
  | .unpack13 => Sys2Proof.Machine.execUnpack13 s
  | .unpack14 => Sys2Proof.Machine.execUnpack14 s
  | .unpack15 => Sys2Proof.Machine.execUnpack15 s
  | .unpack16 => Sys2Proof.Machine.execUnpack16 s
  | .unpackIll17 => Sys2Proof.Machine.execUnpackIll17 s
  | .unpackIll18_19 low => Sys2Proof.Machine.execUnpackIll18_19 low s
  | .unpackIll20_23 low => Sys2Proof.Machine.execUnpackIll20_23 low s
  | .unpackIll24_31 low => Sys2Proof.Machine.execUnpackIll24_31 low s
  | .reset => Sys2Proof.Machine.execReset s
  | .setup => Sys2Proof.Machine.execSetup s
  | .decode => Sys2Proof.Machine.execDecode s
  | .cmdReserved => Sys2Proof.Machine.execCmdReserved s

end Sys2Proof.Machine
end

