-- ==== Sys2Proof/Machine/HostPort.lean ====
section
/-!
DEFINITION. The register port (10_state R34, R35; 20_memory R79) and what the host may do between two steps: present a
register access, feed or bind the stream, bind a destination, assert the reset input (70_reset_and_hazards R270 to R281).
-/

namespace Sys2Proof.Machine

/-- The register `PERF` (60_exceptions R259). -/
def State.perfWord (s : State) : Word :=
  if s.perfEnable then
    match s.perfHist with
    | [] => 0#32
    | [t] => t
    | _ :: _ :: _ => s.perfRatio
  else 0#32

/-- A cursor as the word of its 32-bit host register (10_state R34). -/
def cursorWord (c : Cursor) : Word := c.setWidth 32

/-- A word of a 32-bit host register as an argument (10_state R34). -/
def wordCursor (w : Word) : Cursor := w.setWidth Config.cntW

/-- The word a read of a register returns (10_state R34): 0 for a write-only register and for a reserved address. -/
def State.readRegister (addr : Nat) (s : State) : Word :=
  match addr with
  | 0x5 => s.statusWord
  | 0x6 => cursorWord s.produced
  | 0x7 => cursorWord s.readOffset
  | 0x8 => cursorWord s.readIndex
  | 0x9 => cursorWord s.indexInBlock
  | 0xA => s.perfWord
  | _ => 0#32

/-- A write to a register other than `CMD` (10_state R34): a read-only register or a reserved address ignores it; an `ARG_*`
register must not be written while Active (93_implementation_defined U5). -/
def State.writeRegister (addr : Nat) (data : Word) (s : State) : Result :=
  if 0x1 ≤ addr ∧ addr ≤ 0x4 ∧ s.state = .active then .refused .argWriteWhileActive
  else
    match addr with
    | 0x1 => .next { s with argOffset := wordCursor data }
    | 0x2 => .next { s with argNumSamples := wordCursor data }
    | 0x3 => .next { s with argNumCh := data.extractLsb' 0 2 }
    | 0x4 => .next { s with argDestCap := wordCursor data }
    | _ => .next s

/-- What the host may do between two steps. -/
inductive HostInput where
  /-- Present a register access (10_state R34). -/
  | access (req : PortReq)
  /-- Supply the next bytes of the bound stream (20_memory R64). -/
  | supply (bytes : List Byte)
  /-- Declare the end of the bound stream (20_memory R64, `in_eos` of R79). -/
  | declareEnd
  /-- Bind a new stream, positioned at its first byte (70_reset_and_hazards R273). -/
  | bindStream (bytes : List Byte)
  /-- Bind a fresh destination (70_reset_and_hazards R273). -/
  | bindDest
  /-- Assert the reset input (70_reset_and_hazards R270). -/
  | powerOn
deriving DecidableEq, Repr

/-- The reset input (20_memory R79): the power-on column of 10_state R39. What is not core state stays: the stream, the
destination, the build's toggle. -/
def State.powerOn (s : State) : State :=
  { State.reset with
    perfEnable := s.perfEnable
    stream := s.stream
    spos := s.spos
    streamEnded := s.streamEnded
    dst0 := s.dst0
    dst1 := s.dst1
    draws := s.draws }

/-- The effect of a host action. While a DECODE runs the stream may only grow until its end is declared, and neither the stream
nor the destination may be exchanged (70_reset_and_hazards R280, 93_implementation_defined U6). -/
def hostInput (h : HostInput) (s : State) : Result :=
  match h with
  | .access req => if s.port = none then .next { s with port := some req } else .refused .portBusy
  | .supply bytes =>
    if s.state = .active ∧ s.streamEnded = true then .refused .streamInterference
    else .next { s with stream := s.stream ++ bytes, streamEnded := false }
  | .declareEnd => .next { s with streamEnded := true }
  | .bindStream bytes =>
    if s.state = .active then .refused .streamInterference
    else .next { s with stream := bytes, spos := 0, streamEnded := false }
  | .bindDest =>
    if s.state = .active then .refused .destInterference
    else .next { s with dst0 := [], dst1 := [] }
  | .powerOn => .next s.powerOn

end Sys2Proof.Machine
end

