-- ==== Sys2Proof/Machine/LoopControl.lean ====
section
/-!
DEFINITION. The loop controller (43_loop_control): the loop tests of a DECODE (R190), the entry of a block (R193) and its end
(R195, R191). The cycle step itself is Machine/Progress.lean, which calls the dispatch.
-/

namespace Sys2Proof.Machine

/-- The quota of the block that begins (43_loop_control R193): `min(reqSamples - readIndex, BLOCK)`. -/
def State.quota (s : State) : Nat := min (s.reqSamples.toNat - s.readIndex.toNat) Config.block

/-- `DecodeBlock` entry (43_loop_control R193): a quota of zero ends the command. -/
def State.enterBlock (s : State) : State :=
  let t := { s with indexInBlock := 0#Config.cntW, numTodo := BitVec.ofNat Config.cntW s.quota }
  if t.numTodo = 0#Config.cntW then t.returnToHost else { t with phase := .cycle }

/-- The loop tests of `DecodeLoop` (43_loop_control R190): the request, then the end of the stream. The core waits while the
host has neither supplied a byte nor declared the end (20_memory R64). -/
def State.blockTest (s : State) : State :=
  if s.reqSamples.toNat ≤ s.readIndex.toNat then s.returnToHost
  else
    match s.streamAtEnd with
    | none => s
    | some true => (s.setError .streamExhausted).returnToHost
    | some false => s.enterBlock

/-- The cycle loop's condition (43_loop_control R193). -/
def State.blockOpen (s : State) : Bool := decide (s.indexInBlock.toNat < s.numTodo.toNat)

/-- The end of a completed block (43_loop_control R193, R195) and the channel alternation (R190, R191). -/
def State.endBlock (s : State) : State :=
  { s.finishBlock with
    chan := if s.numCh = 2#2 then 1#1 - s.chan else s.chan
    phase := .blockTest }

end Sys2Proof.Machine
end

