-- ==== Sys2Proof/Machine/Progress.lean ====
section
/-!
DEFINITION. The three places of a step that run a decoded instruction: a register access, a cycle header, a FetchUnpack that goes
on.
-/

namespace Sys2Proof.Machine

/-- One access at the register port (10_state R34). A write to `CMD` starts the command of its low bits while Idle; while Active
it is not accepted and not queued (42_session_commands R170). -/
def servePort (req : PortReq) (s : State) : Result :=
  match req with
  | .read addr => .next { s with portData := s.readRegister addr }
  | .write addr data =>
    if addr = 0 then
      match s.state with
      | .idle => exec (decodeCommand data) s
      | .active => .next s
    else s.writeRegister addr data

/-- `DecodeOneCycle` (43_loop_control R194): the header is read, then the cycle it selects runs. -/
def State.stepCycle (s : State) : Result :=
  match s.readCycleHeader with
  | .waiting => .next s
  | .short t => .next (t.abort .streamExhausted)
  | .got _ t => exec (decodeHeader t.hdrInfo t.hdrNum) t

/-- A FetchUnpack that waited for its bytes goes on: the unpacker row its rate selects runs, then the rest of the cycle. -/
def State.stepPayload (s : State) : Result := s.fetchUnpack (exec (decodeRate s.job.rate)) State.completeSub

end Sys2Proof.Machine
end

