-- ==== Sys2Proof/Machine/Step.lean ====
section
/-!
DEFINITION. One step of the core, and a state whose next step runs a given word.
-/

namespace Sys2Proof.Machine

/-- One step of the core. A register access the host has presented is served first; an Idle core waits for one (60_exceptions
R257); an Active core goes on with its DECODE. -/
def step (s : State) : Host.Outcome State Fault Refusal :=
  match s.port with
  | some req => servePort req { s with port := none }
  | none =>
    match s.state with
    | .idle => .next s
    | .active =>
      match s.phase with
      | .blockTest => .next s.blockTest
      | .cycle => if s.blockOpen then s.stepCycle else .next s.endBlock
      | .payload => s.stepPayload

/-- A core in the middle of a mono DECODE of one block with room for 4096 samples, its buffers allocated, its stream these bytes
and then zero bytes up to `len` more, and the end of the stream declared. -/
def State.decoding (s : State) (bytes : List Byte) (len : Nat) : State :=
  { s.allocate.clearSession with
    state := .active
    numCh := 1#2
    destCap := 4096#Config.cntW
    reqSamples := 4096#Config.cntW
    numTodo := 4096#Config.cntW
    stream := bytes ++ List.replicate len 0#8
    streamEnded := true
    phase := .cycle
    port := none }

/-- `s` with a word of the opcode table stored where the next step fetches (log entry 11). A header stands at the stream position
of a running DECODE, with a payload of zero bytes; a rate field stands in the operands of a FetchUnpack of one sample, with zero
bytes to unpack; a command word stands at the register port of an Idle core. -/
def State.withFetchWord (s : State) (nbits w : Nat) : State :=
  match tableFormat nbits w with
  | .hdr =>
    let bytes := tableBytes nbits w
    let len := match decodeTableWord nbits w with
      | some i => payloadLength i
      | none => 0
    s.decoding bytes len
  | .rate =>
    { s.decoding [] 2 with
      phase := .payload
      job := ⟨.template, BitVec.ofNat 5 w, 0#5, 1⟩ }
  | .cmd => { s with state := .idle, port := some (.write 0 (BitVec.ofNat 32 w)) }

end Sys2Proof.Machine
end

