-- ==== Sys2Proof/Safety.lean ====
section
/-!
DEFINITION. What a safe state is: the invariant of the machine, whose clauses are the rules' own statements of range and
consistency, and the safe answers of a step.
-/

namespace Sys2Proof.Machine

/-- The buffers have their capacities while `ready = 1` and zero length while `ready = 0` (10_state R22, R30 to R32). -/
structure State.BuffersOk (s : State) : Prop where
  allocated : s.ready = true →
    s.base.length = Config.block ∧ s.work.length = Config.block ∧ s.stage.length = Config.stageBytes
  released : s.ready = false → s.base = [] ∧ s.work = [] ∧ s.stage = []

/-- The throughput bookkeeping: empty where `PERF_ENABLE = 0`, never deeper than `HIST_DEPTH` (10_state R36,
60_exceptions R258). -/
structure State.PerfOk (s : State) : Prop where
  off : s.perfEnable = false → s.perfHist = [] ∧ s.perfRatio = 0#32
  depth : s.perfHist.length ≤ Config.histDepth

/-- A DECODE in progress: what the entry checks of 42_session_commands R174 and the loop of 43_loop_control keep true. -/
structure State.ActiveOk (s : State) : Prop where
  /-- Entry checks 1 and 2. -/
  noFault : s.fault = 0#4
  ready : s.ready = true
  /-- The status is `OK` until the command ends (43_loop_control R190). -/
  statusOk : s.status = 0#4
  /-- Entry check 3. -/
  channels : s.numCh = 1#2 ∨ s.numCh = 2#2
  /-- Entry check 4. -/
  capacity : s.destCap.toNat < Config.destCapLimit
  /-- Entry check 6. -/
  request : s.reqSamples.toNat ≤ s.destCap.toNat
  /-- The active channel is one of the destination (43_loop_control R191). -/
  channel : s.chan.toNat < s.numCh.toNat
  /-- No more is produced than was requested. -/
  produced : s.readIndex.toNat ≤ s.reqSamples.toNat
  /-- Inside a block: the quota is what 43_loop_control R193 made it, and the cursor is inside it. -/
  block : s.phase ≠ .blockTest →
    s.readIndex.toNat + s.numTodo.toNat ≤ s.reqSamples.toNat ∧ 1 ≤ s.numTodo.toNat ∧
      s.indexInBlock.toNat ≤ s.numTodo.toNat
  /-- Inside a payload read: the cycle passed the validation of 43_loop_control R194. -/
  cycle : s.phase = .payload →
    s.job.rateFull.toNat ≤ Config.maxRate ∧ s.job.rateErr.toNat ≤ Config.maxRate ∧ 1 ≤ s.job.n ∧
      s.indexInBlock.toNat + s.job.n ≤ s.numTodo.toNat

/-- The invariant. -/
structure State.Inv (s : State) : Prop where
  buffers : s.BuffersOk
  perf : s.PerfOk
  /-- Both destination channels are in canonical form. -/
  dst0 : s.dst0.wf = true
  dst1 : s.dst1.wf = true
  /-- Codes 9 to 15 are never produced (60_exceptions R240). -/
  status : s.status.toNat ≤ 8
  /-- `fault` holds 0 or a structural code (10_state R29). -/
  fault : s.fault = 0#4 ∨ s.fault = 3#4 ∨ s.fault = 4#4 ∨ s.fault = 5#4
  /-- `indexInBlock` and `numTodo` stay within a block (10_state R24, R26). -/
  cursor : s.indexInBlock.toNat ≤ Config.block
  quota : s.numTodo.toNat ≤ Config.block
  /-- An Idle core stands at no point of the loop. -/
  idle : s.state = .idle → s.phase = .blockTest
  /-- A DECODE in progress. -/
  active : s.state = .active → s.ActiveOk

/-- The answers that no rule is broken by: a next state, or the refusal of a host's write to an `ARG_*` register while Active
(93_implementation_defined U5), which is the host's fault, not the core's. -/
def Result.safe : Result → Bool
  | .next _ => true
  | .fault _ => false
  | .refused .argWriteWhileActive => true
  | .refused _ => false

/-- A measure of the work a running DECODE has left once the end of its stream is declared (43_loop_control R198): every step
lowers it, or ends the command. -/
def State.workLeft (s : State) : Nat :=
  3 * s.stream.length +
    match s.phase with
    | .blockTest => 1
    | .cycle => if s.blockOpen then 0 else 2
    | .payload => 3

end Sys2Proof.Machine
end

