-- ==== Sys2Proof/Certificates/Slice0/Obligations.lean ====
section
/-!
DEFINITION. The statements for the provers. First the words they are written in (closed forms taken from the rules' own formulas,
the hypotheses under which a cycle completes, what the end of a cycle or of a command leaves), then the statements.
-/

namespace Sys2Proof.Claims

open Sys2Proof.Machine

/-! ### Closed forms of the rules -/

/-- The unbounded integer `P` of a payload, byte `q` at weight `256 ^ q` (41_bitrate_unpack R143). -/
def payloadInteger : List Byte → Nat
  | [] => 0
  | b :: bs => b.toNat + 256 * payloadInteger bs

/-- The second form of R143: `f = (P >> (i*r)) mod 2^r`, less `2^r` from `2^(r-1)` on; 0 at rate 0. -/
def closedValue (r : Nat) (src : List Byte) (i : Nat) : Int :=
  if r = 0 then 0
  else
    let f : Nat := (payloadInteger src >>> (i * r)) % 2 ^ r
    if f < 2 ^ (r - 1) then f else (f : Int) - 2 ^ r

/-- The real value of a binary32 pattern that is zero or normal (45_float_convert R230). -/
def f32Value (p : Word) : ℚ :=
  let e : Nat := (p.toNat / 2 ^ 23) % 2 ^ 8
  let m : Nat := p.toNat % 2 ^ 23
  if e = 0 ∧ m = 0 then 0
  else (-1) ^ (p.toNat / 2 ^ 31) * (2 : ℚ) ^ ((e : Int) - 127) * (1 + (m : ℚ) / 2 ^ 23)

/-- A pattern that the converter may produce: plus zero or a normal number (45_float_convert R230). -/
def zeroOrNormal (p : Word) : Prop :=
  p = 0#32 ∨ (1 ≤ (p.toNat / 2 ^ 23) % 2 ^ 8 ∧ (p.toNat / 2 ^ 23) % 2 ^ 8 ≤ 254)

/-- The samples of a diff cycle after its anchors are distributed (44_reconstruct R215, R216 step 1). -/
def anchorSamples (rateFull n : Nat) (full : List Byte) : List Sample :=
  holdAnchors (unpackRun rateFull (numAnchors n) full) n

/-- The samples of a diff cycle (44_reconstruct R216): refined by the error residual where `rateErr > 0`. -/
def diffSamples (rateFull rateErr n : Nat) (full err : List Byte) : List Sample :=
  if rateErr = 0 then anchorSamples rateFull n full
  else addRun (anchorSamples rateFull n full) (unpackRun rateErr n err)

/-! ### What a cycle needs and leaves -/

/-- A cycle of `n` samples can run: the buffers are allocated, the cycle fits the quota (43_loop_control R194 step 5) and the
destination (20_memory R66). -/
structure CycleFits (s : State) (n : Nat) : Prop where
  ready : s.ready = true
  base : s.base.length = Config.block
  count : 1 ≤ n ∧ n ≤ Config.block
  room : s.indexInBlock.toNat + n ≤ s.numTodo.toNat
  channel : s.chan.toNat < s.numCh.toNat
  space : s.writePos + n ≤ s.destCap.toNat

/-- What a completed cycle leaves (44_reconstruct R211, 20_memory R67): the payload is consumed, `base` starts with the cycle's
samples and keeps its other entries, the destination holds their conversions at the write position of the active channel and
is otherwise as it was, and the cursor has moved. Every field that is not named is unchanged. -/
structure CycleDone (s t : State) (n : Nat) (samples : List Sample) (payload rest : List Byte) : Prop where
  length : samples.length = n
  frame : t = { s with
    stream := rest
    spos := s.spos + payload.length
    stage := t.stage
    work := t.work
    base := samples ++ s.base.drop n
    dst0 := t.dst0
    dst1 := t.dst1
    indexInBlock := s.indexInBlock + BitVec.ofNat 32 n
    phase := .cycle
    job := t.job }
  written : ∀ c i, t.dstRead c i =
    if c = s.chan ∧ s.writePos ≤ i ∧ i < s.writePos + n then (samples.map i16ToF32)[i - s.writePos]? else s.dstRead c i

/-- What the abort of a DECODE leaves (60_exceptions R250, 43_loop_control R195, R197): the code in `status`, the first structural
code in `fault`, the block of the last channel counted, `produced` and `readOffset` advanced by it, the core Idle. Every field
that is not named is unchanged; the throughput bookkeeping of a build that has it is `Obligations.ThroughputHistory`. -/
structure Aborted (code : BitVec 4) (s t : State) : Prop where
  status : t.status = code
  fault : t.fault = if (code = 3#4 ∨ code = 4#4 ∨ code = 5#4) ∧ s.fault = 0#4 then code else s.fault
  readIndex : t.readIndex = if s.chan.toNat + 1 = s.numCh.toNat then s.readIndex + s.indexInBlock else s.readIndex
  produced : t.produced = t.readIndex
  readOffset : t.readOffset = s.readOffset + t.readIndex
  perf : s.perfEnable = false → t.perfHist = s.perfHist ∧ t.perfRatio = s.perfRatio ∧ t.draws = s.draws
  frame : t = { s with
    status := t.status
    fault := t.fault
    readIndex := t.readIndex
    produced := t.produced
    readOffset := t.readOffset
    perfHist := t.perfHist
    perfRatio := t.perfRatio
    draws := t.draws
    state := .idle
    phase := .blockTest }

/-- The unpacker of rate `r` completes on every state whose buffers are allocated, whatever bytes are staged: its target starts with
the `count` values of the closed form over the staged payload, and nothing else changes (41_bitrate_unpack R142, R143). -/
def UnpackerCompletes (i : Instr) (r : Nat) : Prop :=
  ∀ s : State, s.ready = true →
    ∃ vals : List Sample, vals.length = s.job.count ∧
      (∀ j, j < s.job.count →
        (vals[j]?).map BitVec.toInt = some (closedValue r (s.stage.take (byteAmount r s.job.count)) j)) ∧
      exec i s = .next (if s.job.sub = .template then { s with base := vals ++ s.base.drop s.job.count }
        else { s with work := vals ++ s.work.drop s.job.count })

/-- A DIFF row completes where both its sub-streams are there, and leaves the rule's samples (44_reconstruct R216). -/
def DiffCompletes (row : BitVec 5 → BitVec 5 → BitVec 8 → Instr) : Prop :=
  ∀ (s : State) (rateFull rateErr : BitVec 5) (k : BitVec 8) (full err rest : List Byte),
    rateFull.toNat ≤ 16 → rateErr.toNat ≤ 16 → k.toNat ≤ 12 → CycleFits s (2 ^ k.toNat) →
    s.stream = full ++ (err ++ rest) →
    full.length = byteAmount rateFull.toNat (numAnchors (2 ^ k.toNat)) →
    err.length = byteAmount rateErr.toNat (2 ^ k.toNat) →
    ∃ t, exec (row rateFull rateErr k) s = .next t ∧
      CycleDone s t (2 ^ k.toNat) (diffSamples rateFull.toNat rateErr.toNat (2 ^ k.toNat) full err) (full ++ err) rest

/-- A DIFF row whose stream ends inside a sub-stream (44_reconstruct R216): all that is left of the stream is consumed, the command
is aborted with `StreamExhausted`, and no destination sample is written; `base` is unchanged where the full sub-stream was
short, and holds the anchor-only samples where the error sub-stream was. -/
def DiffShort (row : BitVec 5 → BitVec 5 → BitVec 8 → Instr) : Prop :=
  ∀ (s : State) (rateFull rateErr : BitVec 5) (k : BitVec 8),
    rateFull.toNat ≤ 16 → rateErr.toNat ≤ 16 → k.toNat ≤ 12 → CycleFits s (2 ^ k.toNat) → s.streamEnded = true →
    (s.stream.length < byteAmount rateFull.toNat (numAnchors (2 ^ k.toNat)) →
      ∃ t, exec (row rateFull rateErr k) s = .next t ∧
        Aborted 1#4 { s with stream := [], spos := s.spos + s.stream.length, job := t.job } t) ∧
    (∀ full err : List Byte, s.stream = full ++ err → 0 < rateErr.toNat →
      full.length = byteAmount rateFull.toNat (numAnchors (2 ^ k.toNat)) →
      err.length < byteAmount rateErr.toNat (2 ^ k.toNat) →
      ∃ t, exec (row rateFull rateErr k) s = .next t ∧
        Aborted 1#4 { s with
          stream := []
          spos := s.spos + s.stream.length
          stage := t.stage
          work := t.work
          base := anchorSamples rateFull.toNat (2 ^ k.toNat) full ++ s.base.drop (2 ^ k.toNat)
          job := t.job } t)

/-- A cycle with an illegal header is rejected before a payload byte is read, with the code of the first check that fails
(43_loop_control R194 steps 2 to 5); `rateErr` is 0 for the rows that have none. -/
def HeaderRejected (i : Instr) (rateFull rateErr : BitVec 5) (countLegal : Prop) (n : Nat) (s : State) : Prop :=
  (16 < rateFull.toNat → ∃ t, exec i s = .next t ∧ Aborted 3#4 s t) ∧
  (rateFull.toNat ≤ 16 → 16 < rateErr.toNat → ∃ t, exec i s = .next t ∧ Aborted 3#4 s t) ∧
  (rateFull.toNat ≤ 16 → rateErr.toNat ≤ 16 → ¬ countLegal → ∃ t, exec i s = .next t ∧ Aborted 4#4 s t) ∧
  (rateFull.toNat ≤ 16 → rateErr.toNat ≤ 16 → countLegal → s.numTodo.toNat < s.indexInBlock.toNat + n →
    ∃ t, exec i s = .next t ∧ Aborted 5#4 s t)

/-- `s` once the host has supplied more bytes of the stream and, if it says so, declared its end. -/
def supplied (s : State) (bytes : List Byte) (ended : Bool) : State :=
  { s with stream := s.stream ++ bytes, streamEnded := ended }

/-- The state `w` in which the cycle `i`, started in `s`, waits goes on as the cycle would have gone from `s` with what the host
supplies meanwhile. -/
def Resumes (i : Instr) (s w : State) : Prop :=
  ∀ (bytes : List Byte) (ended : Bool), step (supplied w bytes ended) = exec i (supplied s bytes ended)

/-- The two waits of a DIFF row (44_reconstruct R216, 20_memory R64): in the full sub-stream with no byte consumed, and in the error
sub-stream with the full one consumed and the anchor-only samples in `base`. -/
def DiffWaits (row : BitVec 5 → BitVec 5 → BitVec 8 → Instr) : Prop :=
  ∀ (s : State) (rateFull rateErr : BitVec 5) (k : BitVec 8),
    s.state = .active → s.port = none → s.streamEnded = false →
    rateFull.toNat ≤ 16 → rateErr.toNat ≤ 16 → k.toNat ≤ 12 → CycleFits s (2 ^ k.toNat) →
    (s.stream.length < byteAmount rateFull.toNat (numAnchors (2 ^ k.toNat)) →
      ∃ w, exec (row rateFull rateErr k) s = .next w ∧ w = { s with job := w.job, phase := .payload } ∧
        Resumes (row rateFull rateErr k) s w) ∧
    (∀ full err : List Byte, s.stream = full ++ err → 0 < rateErr.toNat →
      full.length = byteAmount rateFull.toNat (numAnchors (2 ^ k.toNat)) →
      err.length < byteAmount rateErr.toNat (2 ^ k.toNat) →
      ∃ w, exec (row rateFull rateErr k) s = .next w ∧
        w = { s with
          stream := err
          spos := s.spos + full.length
          stage := full ++ s.stage.drop full.length
          work := unpackRun rateFull.toNat (numAnchors (2 ^ k.toNat)) full ++ s.work.drop (numAnchors (2 ^ k.toNat))
          base := anchorSamples rateFull.toNat (2 ^ k.toNat) full ++ s.base.drop (2 ^ k.toNat)
          job := w.job
          phase := .payload } ∧
        Resumes (row rateFull rateErr k) s w)

/-- The states of a result compared but for the destination. -/
def sameButDestination : Result → Result → Prop
  | .next s, .next t => { s with dst0 := t.dst0, dst1 := t.dst1 } = t
  | .fault a, .fault b => a = b
  | .refused a, .refused b => a = b
  | _, _ => False

/-- The `ARG_*` registers, compared. -/
def sameArgs (s t : State) : Prop :=
  s.argOffset = t.argOffset ∧ s.argNumSamples = t.argNumSamples ∧ s.argNumCh = t.argNumCh ∧ s.argDestCap = t.argDestCap

/-- The next step is a command of code `op`: an Idle core with a write to `CMD` at its port. -/
def commandAt (s : State) (op : BitVec 2) : Prop :=
  s.state = .idle ∧ ∃ w : Word, s.port = some (.write 0 w) ∧ w.extractLsb' 0 2 = op

/-- The next step is a write to an `ARG_*` register. -/
def argWriteAt (s : State) : Prop :=
  ∃ (a : Nat) (w : Word), s.port = some (.write a w) ∧ 1 ≤ a ∧ a ≤ 4

/-- The step from `s` to `t` ends a DECODE. -/
def endsDecode (s t : State) : Prop := s.state = .active ∧ t.state = .idle

/-- The power-on column of 10_state R39, as far as it gives values, with the reset values of the `ARG_*` registers (R34). -/
structure PowerOnColumn (t : State) : Prop where
  state : t.state = .idle
  ready : t.ready = false
  cursors : t.readIndex = 0#32 ∧ t.indexInBlock = 0#32 ∧ t.readOffset = 0#32 ∧ t.chan = 0#1
  request : t.reqSamples = 0#32 ∧ t.numCh = 0#2 ∧ t.destCap = 0#32 ∧ t.numTodo = 0#32
  result : t.fault = 0#4 ∧ t.status = 0#4 ∧ t.produced = 0#32
  args : t.argOffset = 0#32 ∧ t.argNumSamples = 0#32 ∧ t.argNumCh = 0#2 ∧ t.argDestCap = 0#32
  perf : t.perfHist = [] ∧ t.perfRatio = 0#32
  registers : ∀ addr : Nat, t.readRegister addr = 0#32

end Sys2Proof.Claims

open Sys2Proof Sys2Proof.Machine Sys2Proof.Claims

/-! ## Encoding -/

/-- Decoding the encoding of any instruction gives it back, with the bytes after it (30_encoding R91 to R95, R105; 41 R140). -/
def Obligations.DecodeOfEncode : Prop :=
  ∀ (i : Instr) (rest : List Byte), decode i.format (encode i ++ rest) = .ok (i, rest)

/-- Re-encoding what a word decodes to gives back its bits, but for the ignored ones (30_encoding R91, R94, R95, R105). That the
encoder writes the ignored bits as zeros is the model's choice (log entry 18): the notation of 30_encoding R106 assembles a header
so, nothing says so of a command, and a decoder must accept either value. -/
def Obligations.EncodeOfDecode : Prop :=
  (∀ b0 b1 b2 : Byte, encode (decodeHeader b0 (numByteOrder b1 b2)) =
    if b0 &&& 0xC0#8 = 0#8 then [b0, b1, b2] else [b0 &&& 0xDF#8, b1, b2 &&& 0x1F#8]) ∧
  (∀ r : BitVec 5, encode (decodeRate r) = [r.setWidth 8]) ∧
  (∀ w : Word, encode (decodeCommand w) = [(w &&& 3#32).setWidth 8])

/-- The ignored bits have no effect (30_encoding R103): in a diff header bit 5 of `headerInfo` and bits 15:13 of `hdrNum`; in a
payload the bits above the last field. In a non-diff header bits 12:8 of `hdrNum` are part of the count. -/
def Obligations.IgnoredBitsHaveNoEffect : Prop :=
  (∀ (info info' : Byte) (num num' : BitVec 16), info &&& 0xC0#8 ≠ 0#8 → info &&& 0xDF#8 = info' &&& 0xDF#8 →
    num &&& 0x1FFF#16 = num' &&& 0x1FFF#16 → decodeHeader info num = decodeHeader info' num') ∧
  (∀ (r c : Nat) (src src' : List Byte), (∀ t, t < r * c → payloadBit src t = payloadBit src' t) →
    unpackRun r c src = unpackRun r c src') ∧
  (∀ (info : Byte) (num : BitVec 16), info &&& 0xC0#8 = 0#8 → ∃ rate : BitVec 5,
    decodeHeader info num = .template rate num ∨ decodeHeader info num = .delta rate num)

/-- The header accessors (40_cycle_header R121 to R124), with the rules' examples. -/
def Obligations.HeaderAccessors : Prop :=
  (∀ s : State, s.isDiff = decide (s.hdrInfo &&& 0xC0#8 ≠ 0#8) ∧ s.isTemplate = decide (s.hdrInfo &&& 0x20#8 ≠ 0#8)) ∧
  (∀ (info : Byte) (num : BitVec 16) (full : Bool), (getBitRate info num full).toNat =
    if info &&& 0xC0#8 ≠ 0#8 ∧ full = false then ((num >>> 8) &&& 0x1F#16).toNat else (info &&& 0x1F#8).toNat) ∧
  (∀ (info : Byte) (num : BitVec 16), getNumSamples info num =
    if info &&& 0xC0#8 ≠ 0#8 then 1 <<< (num &&& 0xFF#16).toNat else num.toNat) ∧
  (∀ (info : Byte) (num : BitVec 16), info &&& 0xC0#8 ≠ 0#8 → decodeHeader (info ||| 0x20#8) num = decodeHeader info num) ∧
  (∀ (info : Byte) (num : BitVec 16), info &&& 0xC0#8 ≠ 0#8 → 13 ≤ (num &&& 0xFF#16).toNat → 4096 < getNumSamples info num) ∧
  (∀ s : State, (s.hdrInfo = 0x44#8 ∨ s.hdrInfo = 0x84#8 ∨ s.hdrInfo = 0xC4#8 → s.isDiff = true) ∧
    (s.hdrInfo = 0x24#8 ∨ s.hdrInfo = 0x04#8 → s.isDiff = false) ∧ (s.hdrInfo = 0x24#8 → s.isTemplate = true) ∧
    (s.hdrInfo = 0x04#8 → s.isTemplate = false) ∧ (s.hdrInfo = 0x64#8 → s.isTemplate = true ∧ s.isDiff = true)) ∧
  getBitRate 0x44#8 0x0208#16 true = 4#5 ∧ getBitRate 0x44#8 0x0208#16 false = 2#5 ∧
  getBitRate 0x24#8 0x0100#16 true = 4#5 ∧ getBitRate 0x24#8 0x0100#16 false = 4#5 ∧
  getBitRate 0x5F#8 0xFF00#16 true = 31#5 ∧ getBitRate 0x5F#8 0xFF00#16 false = 31#5 ∧
  getNumSamples 0x44#8 0x0208#16 = 256 ∧ getNumSamples 0x40#8 0x000C#16 = 4096 ∧
  getNumSamples 0x24#8 0x0100#16 = 256 ∧ getNumSamples 0x24#8 0x1001#16 = 4097

/-- The mode of a cycle is selected by `headerInfo[7:5]` alone, and its operands are what the accessors give (30_encoding R95, R96,
43_loop_control R194). -/
def Obligations.HeaderSelectsMode : Prop :=
  ∀ (info : Byte) (num : BitVec 16),
    (info &&& 0xE0#8 = 0x20#8 → decodeHeader info num = .template (getBitRate info num true) num) ∧
    (info &&& 0xE0#8 = 0x00#8 → decodeHeader info num = .delta (getBitRate info num true) num) ∧
    (info &&& 0xC0#8 = 0x40#8 →
      decodeHeader info num = .diff1 (getBitRate info num true) (getBitRate info num false) (num.setWidth 8)) ∧
    (info &&& 0xC0#8 = 0x80#8 →
      decodeHeader info num = .diff2 (getBitRate info num true) (getBitRate info num false) (num.setWidth 8)) ∧
    (info &&& 0xC0#8 = 0xC0#8 →
      decodeHeader info num = .diff3 (getBitRate info num true) (getBitRate info num false) (num.setWidth 8))

/-- The worked encodings of 30_encoding R109 and one word of every other family decode as the spec says.
The byte order of the count and of rate 16 is decisions D1 and D2. -/
def Obligations.WorkedWordsDecode : Prop :=
  decode .hdr [0x24#8, 0x00#8, 0x01#8] = .ok (.template 4#5 256#16, []) ∧
  decode .hdr [0x02#8, 0x00#8, 0x01#8] = .ok (.delta 2#5 256#16, []) ∧
  decode .hdr [0x44#8, 0x08#8, 0x02#8] = .ok (.diff1 4#5 2#5 8#8, []) ∧
  decode .hdr [0x20#8, 0x00#8, 0x10#8] = .ok (.template 0#5 4096#16, []) ∧
  decode .hdr [0x30#8, 0x01#8, 0x00#8, 0xFE#8, 0xFF#8] = .ok (.template 16#5 1#16, [0xFE#8, 0xFF#8]) ∧
  unpackRun 16 1 [0xFE#8, 0xFF#8] = [BitVec.ofInt 16 (-2)] ∧
  decodeRate 7#5 = .unpack7 ∧ decodeRate 18#5 = .unpackIll18_19 0#1 ∧ decodeCommand 2#32 = .decode

/-- The mapping of rates to unpackers is the identity on 0 to 16, the unpacker selected has field width exactly the rate, and a cycle
with a larger rate is rejected before an unpacker is selected (41_bitrate_unpack R140). -/
def Obligations.RateSelectsUnpacker : Prop :=
  selectForBitRate 0#5 = execUnpack0 ∧ selectForBitRate 1#5 = execUnpack1 ∧ selectForBitRate 2#5 = execUnpack2 ∧
  selectForBitRate 3#5 = execUnpack3 ∧ selectForBitRate 4#5 = execUnpack4 ∧ selectForBitRate 5#5 = execUnpack5 ∧
  selectForBitRate 6#5 = execUnpack6 ∧ selectForBitRate 7#5 = execUnpack7 ∧ selectForBitRate 8#5 = execUnpack8 ∧
  selectForBitRate 9#5 = execUnpack9 ∧ selectForBitRate 10#5 = execUnpack10 ∧ selectForBitRate 11#5 = execUnpack11 ∧
  selectForBitRate 12#5 = execUnpack12 ∧ selectForBitRate 13#5 = execUnpack13 ∧ selectForBitRate 14#5 = execUnpack14 ∧
  selectForBitRate 15#5 = execUnpack15 ∧ selectForBitRate 16#5 = execUnpack16 ∧
  (∀ (r : BitVec 5) (s : State), r.toNat ≤ 16 →
    selectForBitRate r s = s.unpack r.toNat ∧ exec (decodeRate r) s = selectForBitRate r s) ∧
  (∀ (sub : SubStream) (rateFull rateErr : BitVec 5) (count : Option Nat) (s : State),
    16 < rateFull.toNat ∨ 16 < rateErr.toNat → s.runCycle sub rateFull rateErr count = .next (s.abort .bitRate))

/-! ## A step runs the decoded instruction -/

/-- A step with a write to `CMD` at the port of an Idle core is `exec` of the command its low bits name, on the state with the
access served (10_state R34, 30_encoding R105).
That one step serves one access is the model's choice (log entry 8). -/
def Obligations.StepRunsCommandWord : Prop :=
  ∀ (s : State) (w : Word), s.state = .idle → s.port = some (.write 0 w) →
    step s = exec (decodeCommand w) { s with port := none }

/-- A step at an open block with three bytes of a header at the stream position is `exec` of the cycle they decode to, on the state
with the three bytes consumed and latched (40_cycle_header R120, 43_loop_control R194).
That a whole cycle is one step is the model's choice (log entry 7); the byte order is decision D1. -/
def Obligations.StepRunsCycleHeader : Prop :=
  ∀ (s : State) (b0 b1 b2 : Byte) (rest : List Byte), s.port = none → s.state = .active → s.phase = .cycle →
    s.indexInBlock.toNat < s.numTodo.toNat → s.stream = b0 :: b1 :: b2 :: rest →
    ∃ i, decode .hdr s.stream = .ok (i, rest) ∧
      step s = exec i { s with stream := rest, spos := s.spos + 3, hdrInfo := b0, hdrNum := b2 ++ b1 }

/-- A step at a FetchUnpack whose bytes have come is `exec` of the unpacker row its rate decodes to, on the state with the payload
consumed and staged, and then the rest of the cycle; with an illegal rate it is `exec` of the illegal row, with no byte read
(44_reconstruct R210).
That a waiting read is a point of its own between two steps, and what an illegal rate does there, is the model's choice (log entries 7, 9, 18). -/
def Obligations.StepRunsUnpackerRow : Prop :=
  ∀ s : State, s.port = none → s.state = .active → s.phase = .payload →
    (16 < s.job.rate.toNat → step s = exec (decodeRate s.job.rate) s) ∧
    (∀ payload rest : List Byte, s.job.rate.toNat ≤ 16 → s.stream = payload ++ rest →
      payload.length = byteAmount s.job.rate.toNat s.job.count →
      step s = andThen (exec (decodeRate s.job.rate) { s with
        stream := rest
        spos := s.spos + payload.length
        stage := payload ++ s.stage.drop payload.length }) State.completeSub)

/-! ## The entropy decoder -/

/-- `StreamAtEnd` is false exactly where a byte stands at the stream position, true exactly where none does and the end of the stream
is declared (20_memory R62); where the host has neither supplied a byte nor declared the end it has no answer yet (20_memory
R64). It changes nothing, being a function to an answer alone. -/
def Obligations.StreamAtEndTest : Prop :=
  ∀ s : State,
    (s.streamAtEnd = some false ↔ 0 < s.stream.length) ∧
    (s.streamAtEnd = some true ↔ s.stream.length = 0 ∧ s.streamEnded = true) ∧
    (s.streamAtEnd = none ↔ s.stream.length = 0 ∧ s.streamEnded = false)

/-- Every unpacked value is the closed form of 41_bitrate_unpack R143, and lies in the range of a field of the rate (R161).
Bit order and sign rule are decisions D2 and D3 (log entry 13). -/
def Obligations.UnpackIsIntegerFormula : Prop :=
  ∀ (r c : Nat) (src : List Byte), r ≤ 16 →
    (unpackRun r c src).length = c ∧
    ∀ i, i < c → ((unpackRun r c src)[i]?).map BitVec.toInt = some (closedValue r src i) ∧
      (r = 0 → closedValue r src i = 0) ∧
      (1 ≤ r → -(2 : Int) ^ (r - 1) ≤ closedValue r src i ∧ closedValue r src i ≤ 2 ^ (r - 1) - 1)

/-- All seventeen unpacker rows complete with the values of the closed form at their own rate (41_bitrate_unpack R142 to R160).
Bit order and sign rule are decisions D2 and D3 (log entry 13). -/
def Obligations.UnpackerRowsComplete : Prop :=
  UnpackerCompletes .unpack0 0 ∧ UnpackerCompletes .unpack1 1 ∧ UnpackerCompletes .unpack2 2 ∧
  UnpackerCompletes .unpack3 3 ∧ UnpackerCompletes .unpack4 4 ∧ UnpackerCompletes .unpack5 5 ∧
  UnpackerCompletes .unpack6 6 ∧ UnpackerCompletes .unpack7 7 ∧ UnpackerCompletes .unpack8 8 ∧
  UnpackerCompletes .unpack9 9 ∧ UnpackerCompletes .unpack10 10 ∧ UnpackerCompletes .unpack11 11 ∧
  UnpackerCompletes .unpack12 12 ∧ UnpackerCompletes .unpack13 13 ∧ UnpackerCompletes .unpack14 14 ∧
  UnpackerCompletes .unpack15 15 ∧ UnpackerCompletes .unpack16 16

/-- The layouts the rules give by hand: rate 0 all zeros, rate 1 one bit a value, rate 2 and 4 groups of a byte, rate 8 signed bytes,
rate 16 little-endian pairs (41_bitrate_unpack R144, R145, R146, R148, R152, R160).
Bit order and sign rule are decisions D2 and D3 (log entry 13). -/
def Obligations.UnpackByteLayouts : Prop :=
  ∀ (c i : Nat) (src : List Byte), i < c →
    (unpackRun 0 c src)[i]? = some 0#16 ∧
    ((unpackRun 1 c src)[i]?).map BitVec.toInt = some (if (src.getD (i / 8) 0#8).getLsbD (i % 8) then -1 else 0) ∧
    (unpackRun 2 c src)[i]? = some (((src.getD (i / 4) 0#8).extractLsb' (2 * (i % 4)) 2).signExtend 16) ∧
    (unpackRun 4 c src)[i]? = some (((src.getD (i / 2) 0#8).extractLsb' (4 * (i % 2)) 4).signExtend 16) ∧
    (unpackRun 8 c src)[i]? = some ((src.getD i 0#8).signExtend 16) ∧
    (unpackRun 16 c src)[i]? = some (src.getD (2 * i + 1) 0#8 ++ src.getD (2 * i) 0#8)

/-- Values packed at their bit positions, each in the range of the rate, are unpacked exactly (41_bitrate_unpack R162). -/
def Obligations.PackedValuesRoundTrip : Prop :=
  ∀ (r : Nat) (vs : List Sample) (src : List Byte), 1 ≤ r → r ≤ 16 →
    (∀ v ∈ vs, -(2 : Int) ^ (r - 1) ≤ v.toInt ∧ v.toInt ≤ 2 ^ (r - 1) - 1) →
    (∀ i b, i < vs.length → b < r → payloadBit src (i * r + b) = (vs.getD i 0#16).getLsbD b) →
    unpackRun r vs.length src = vs

/-- The illegal rate rows abort with `MalformedHeader.BitRate` and read no byte (60_exceptions R243, R250).
That the row on its own, outside the validation of a header, is this error is the model's choice (log entry 18). -/
def Obligations.IllegalRateRowsAbort : Prop :=
  (∀ s : State, ∃ t, exec .unpackIll17 s = .next t ∧ Aborted 3#4 s t) ∧
  (∀ (low : BitVec 1) (s : State), ∃ t, exec (.unpackIll18_19 low) s = .next t ∧ Aborted 3#4 s t) ∧
  (∀ (low : BitVec 2) (s : State), ∃ t, exec (.unpackIll20_23 low) s = .next t ∧ Aborted 3#4 s t) ∧
  (∀ (low : BitVec 3) (s : State), ∃ t, exec (.unpackIll24_31 low) s = .next t ∧ Aborted 3#4 s t)

/-- `byteAmount` rounds up to a whole byte and never exceeds the staging buffer; with the rule's corner cases and examples
(41_bitrate_unpack R141). -/
def Obligations.ByteAmountRoundsUp : Prop :=
  (∀ r c : Nat, byteAmount r c = (r * c + 7) / 8 ∧ r * c ≤ 8 * byteAmount r c ∧ 8 * byteAmount r c < r * c + 8) ∧
  (∀ r c : Nat, r ≤ 16 → c ≤ 4096 →
    r * c ≤ 65536 ∧ r * c < 2 ^ 17 ∧ byteAmount r c ≤ Config.stageBytes ∧ byteAmount r c < 2 ^ 14) ∧
  (∀ c : Nat, byteAmount 0 c = 0) ∧ (∀ r : Nat, byteAmount r 0 = 0) ∧ byteAmount 16 4096 = 8192 ∧
  byteAmount 1 1 = 1 ∧ byteAmount 3 3 = 2 ∧ byteAmount 4 256 = 128 ∧ byteAmount 2 256 = 64 ∧ byteAmount 4 64 = 32 ∧
  byteAmount 5 7 = 5

/-! ## The reconstructor's arithmetic -/

/-- The int16 addition is 16-bit two's-complement addition, the exact sum wrapped (44_reconstruct R219; decision D9). -/
def Obligations.SampleAdditionWraps : Prop :=
  ∀ a b : Sample, addSample a b = a + b ∧
    (addSample a b).toInt = (a.toInt + b.toInt + 32768) % 65536 - 32768 ∧
    addSample a b = addSample b a ∧ ∀ c, addSample (addSample a b) c = addSample a (addSample b c)

/-- Anchors are held over their stride, and no dense position lacks one (44_reconstruct R214, R215; decisions D6 to D8). -/
def Obligations.AnchorsAreHeld : Prop :=
  ∀ (n : Nat) (anchors : List Sample), 1 ≤ n → anchors.length = numAnchors n →
    numAnchors n = (n + 3) / 4 ∧ (holdAnchors anchors n).length = n ∧
    ∀ j, j < n → j / 4 < numAnchors n ∧ (holdAnchors anchors n)[j]? = anchors[j / 4]?

/-! ## The int16-to-float converter -/

/-- The converted pattern is plus zero or a normal number, and its value is exactly `v / 32768` (45_float_convert R230, R231;
decision D10). -/
def Obligations.ConversionIsExact : Prop :=
  ∀ v : Sample, f32Value (i16ToF32 v) = (v.toInt : ℚ) / 32768 ∧ zeroOrNormal (i16ToF32 v) ∧
    (i16ToF32 v = 0#32 ↔ v = 0#16)

/-- The conversion is injective, and odd but at -32768 (45_float_convert R231). -/
def Obligations.ConversionIsOddAndInjective : Prop :=
  (∀ v w : Sample, i16ToF32 v = i16ToF32 w → v = w) ∧
  (∀ v : Sample, 1 ≤ v.toInt → i16ToF32 (-v) = i16ToF32 v ^^^ 0x80000000#32) ∧
  i16ToF32 (BitVec.ofInt 16 (-32768)) = 0xBF800000#32

/-- The table of 45_float_convert R232. -/
def Obligations.ConversionTable : Prop :=
  i16ToF32 0#16 = 0x00000000#32 ∧ i16ToF32 1#16 = 0x38000000#32 ∧ i16ToF32 (-1#16) = 0xB8000000#32 ∧
  i16ToF32 2#16 = 0x38800000#32 ∧ i16ToF32 3#16 = 0x38C00000#32 ∧ i16ToF32 4#16 = 0x39000000#32 ∧
  i16ToF32 5#16 = 0x39200000#32 ∧ i16ToF32 6#16 = 0x39400000#32 ∧ i16ToF32 7#16 = 0x39600000#32 ∧
  i16ToF32 (-8#16) = 0xB9800000#32 ∧ i16ToF32 (-10#16) = 0xB9A00000#32 ∧ i16ToF32 100#16 = 0x3B480000#32 ∧
  i16ToF32 255#16 = 0x3BFF0000#32 ∧ i16ToF32 256#16 = 0x3C000000#32 ∧ i16ToF32 12345#16 = 0x3EC0E400#32 ∧
  i16ToF32 16384#16 = 0x3F000000#32 ∧ i16ToF32 (-16384#16) = 0xBF000000#32 ∧ i16ToF32 32767#16 = 0x3F7FFE00#32 ∧
  i16ToF32 (-32767#16) = 0xBF7FFE00#32 ∧ i16ToF32 (-32768#16) = 0xBF800000#32

/-! ## The cycles -/

/-- A TEMPLATE cycle with its payload there completes: the samples are the unpacked payload (44_reconstruct R212); `work` is not
touched. At rate 0 the samples are silence.
That the whole cycle is one step is the model's choice (log entry 7). -/
def Obligations.TemplateCompletes : Prop :=
  ∀ (s : State) (rate : BitVec 5) (n : BitVec 16) (payload rest : List Byte),
    rate.toNat ≤ 16 → CycleFits s n.toNat → s.stream = payload ++ rest →
    payload.length = byteAmount rate.toNat n.toNat →
    ∃ t, exec (.template rate n) s = .next t ∧ CycleDone s t n.toNat (unpackRun rate.toNat n.toNat payload) payload rest ∧
      t.work = s.work ∧ t.stage = payload ++ s.stage.drop payload.length ∧
      (rate = 0#5 → payload = [] ∧ t.base = List.replicate n.toNat 0#16 ++ s.base.drop n.toNat)

/-- A DELTA cycle with its payload there completes: the samples are the baseline plus the unpacked residual, wrapped, and they
become the baseline (44_reconstruct R213; decisions D9, D11). At rate 0 the baseline is repeated unchanged.
That the whole cycle is one step, and that the sum replaces the baseline, is log entries 7 and 12. -/
def Obligations.DeltaCompletes : Prop :=
  ∀ (s : State) (rate : BitVec 5) (n : BitVec 16) (payload rest : List Byte),
    rate.toNat ≤ 16 → CycleFits s n.toNat → s.stream = payload ++ rest →
    payload.length = byteAmount rate.toNat n.toNat →
    ∃ t, exec (.delta rate n) s = .next t ∧
      CycleDone s t n.toNat (addRun (s.base.take n.toNat) (unpackRun rate.toNat n.toNat payload)) payload rest ∧
      t.work = unpackRun rate.toNat n.toNat payload ++ s.work.drop n.toNat ∧
      t.stage = payload ++ s.stage.drop payload.length ∧ (rate = 0#5 → payload = [] ∧ t.base = s.base)

/-- The three DIFF rows complete where both sub-streams are there (44_reconstruct R216; decisions D6 to D9).
That the whole cycle is one step is the model's choice (log entry 7); the anchors' rules are log entry 13. -/
def Obligations.DiffRowsComplete : Prop := DiffCompletes .diff1 ∧ DiffCompletes .diff2 ∧ DiffCompletes .diff3

/-- The three non-zero diff flags mean the same (30_encoding R92, R95). -/
def Obligations.DiffFlagsAgree : Prop :=
  ∀ (s : State) (rateFull rateErr : BitVec 5) (k : BitVec 8),
    exec (.diff1 rateFull rateErr k) s = exec (.diff2 rateFull rateErr k) s ∧
    exec (.diff2 rateFull rateErr k) s = exec (.diff3 rateFull rateErr k) s

/-- Illegal headers of all five cycle rows are rejected with the code of the first failing check and no payload byte read
(43_loop_control R194, 60_exceptions R243 to R245; decisions D12 to D15). -/
def Obligations.IllegalHeadersRejected : Prop :=
  ∀ s : State,
    (∀ (rate : BitVec 5) (n : BitVec 16),
      HeaderRejected (.template rate n) rate 0#5 (1 ≤ n.toNat ∧ n.toNat ≤ 4096) n.toNat s ∧
      HeaderRejected (.delta rate n) rate 0#5 (1 ≤ n.toNat ∧ n.toNat ≤ 4096) n.toNat s) ∧
    (∀ (rateFull rateErr : BitVec 5) (k : BitVec 8),
      HeaderRejected (.diff1 rateFull rateErr k) rateFull rateErr (k.toNat ≤ 12) (2 ^ k.toNat) s ∧
      HeaderRejected (.diff2 rateFull rateErr k) rateFull rateErr (k.toNat ≤ 12) (2 ^ k.toNat) s ∧
      HeaderRejected (.diff3 rateFull rateErr k) rateFull rateErr (k.toNat ≤ 12) (2 ^ k.toNat) s)

/-- A TEMPLATE or DELTA cycle whose stream ends inside its payload aborts with `StreamExhausted`; what is left of the stream is
consumed and none of it is used: `base`, `work`, `stage`, the destination and the cursor are unchanged (44_reconstruct R210,
R212, R213). -/
def Obligations.ShortPayloadAborts : Prop :=
  ∀ (s : State) (rate : BitVec 5) (n : BitVec 16), rate.toNat ≤ 16 → CycleFits s n.toNat → s.streamEnded = true →
    s.stream.length < byteAmount rate.toNat n.toNat →
    ∀ i, i = Instr.template rate n ∨ i = Instr.delta rate n →
      ∃ t, exec i s = .next t ∧ Aborted 1#4 { s with stream := [], spos := s.spos + s.stream.length, job := t.job } t

/-- A DIFF cycle whose stream ends inside a sub-stream aborts (44_reconstruct R216). -/
def Obligations.ShortDiffPayloadAborts : Prop := DiffShort .diff1 ∧ DiffShort .diff2 ∧ DiffShort .diff3

/-- A cycle of any of the five rows whose payload the host has not yet supplied waits, and once the host supplies more bytes or
declares the end, the next step does what the cycle would have done had they been there from the start (20_memory R64,
44_reconstruct R210, R216). It waits with no byte of the missing run consumed: a TEMPLATE or DELTA cycle in its one run; a DIFF
cycle in its full sub-stream, or, with the full sub-stream consumed and its anchors distributed, in its error sub-stream. That a
wait is a step that changes nothing else is the model's choice (log entry 9). -/
def Obligations.WaitingCycleResumes : Prop :=
  (∀ (s : State) (rate : BitVec 5) (n : BitVec 16) (i : Instr),
    i = .template rate n ∨ i = .delta rate n → s.state = .active → s.port = none → s.streamEnded = false →
    rate.toNat ≤ 16 → CycleFits s n.toNat → s.stream.length < byteAmount rate.toNat n.toNat →
    ∃ w, exec i s = .next w ∧ w = { s with job := w.job, phase := .payload } ∧ Resumes i s w) ∧
  DiffWaits .diff1 ∧ DiffWaits .diff2 ∧ DiffWaits .diff3

/-- A header read that finds fewer than three bytes at the end of the stream consumes them, leaves the latched header, and aborts with
`StreamExhausted`; before the end is declared the core waits (40_cycle_header R120, 60_exceptions R241; decision D16).
That waiting is a step that changes nothing is the model's choice (log entry 9). -/
def Obligations.ShortHeaderAborts : Prop :=
  ∀ s : State, s.port = none → s.state = .active → s.phase = .cycle → s.indexInBlock.toNat < s.numTodo.toNat →
    s.stream.length < 3 →
    (s.streamEnded = true →
      ∃ t, step s = .next t ∧ Aborted 1#4 { s with stream := [], spos := s.spos + s.stream.length } t) ∧
    (s.streamEnded = false → step s = .next s)

/-! ## The commands -/

/-- SETUP leaves what 42_session_commands R172 and 10_state R39 say; `stage` has its capacity and contents no rule fixes. Every
field that is not named is unchanged.
The contents of `stage` are a free value (log entry 3). -/
def Obligations.SetupInitialises : Prop :=
  ∀ s : State, ∃ t, exec .setup s = .next t ∧ t.stage.length = 8192 ∧
    t = { s with
      ready := true, base := List.replicate 4096 0#16, work := List.replicate 4096 0#16, stage := t.stage,
      readIndex := 0#32, indexInBlock := 0#32, readOffset := 0#32, chan := 0#1, reqSamples := 0#32, numCh := 0#2,
      destCap := 0#32, numTodo := 0#32, fault := 0#4, status := 0#4, produced := 0#32, perfHist := [], perfRatio := 0#32,
      draws := t.draws }

/-- RESET leaves what 42_session_commands R173 and 10_state R39 say, with the buffers released to zero length (R22). Every field
that is not named is unchanged.
Zero length stands for the inaccessible contents (log entry 2). -/
def Obligations.ResetReleases : Prop :=
  ∀ s : State, exec .reset s = .next { s with
    ready := false, base := [], work := [], stage := [],
    readIndex := 0#32, indexInBlock := 0#32, readOffset := 0#32, chan := 0#1, reqSamples := 0#32, numCh := 0#2,
    destCap := 0#32, numTodo := 0#32, fault := 0#4, status := 0#4, produced := 0#32, perfHist := [], perfRatio := 0#32 }

/-- RESET followed by SETUP gives a state that the cursors, the result registers and the throughput accessor cannot tell from a
freshly constructed one (42_session_commands R173; the source's property S7 of 95_test_vectors). -/
def Obligations.ResetThenSetupIsFresh : Prop :=
  ∀ s : State, ∃ t, andThen (exec .reset s) (exec .setup) = .next t ∧
    ∀ addr : Nat, addr ≠ 5 → t.readRegister addr = State.reset.readRegister addr

/-- DECODE is accepted where all seven entry checks pass: the request is latched and the loop begins (42_session_commands R174,
43_loop_control R190; decisions D17, D23, D33). Every field that is not named is unchanged. -/
def Obligations.DecodeAccepted : Prop :=
  ∀ s : State, s.fault = 0#4 → s.ready = true → s.argNumCh = 1#2 ∨ s.argNumCh = 2#2 → s.argDestCap.toNat < 2 ^ 31 →
    (s.argNumSamples.toInt < 0 ∨ s.argNumSamples.toNat ≤ s.argDestCap.toNat) → s.argOffset = s.readOffset →
    exec .decode s = .next { s with
      numCh := s.argNumCh
      destCap := s.argDestCap
      reqSamples := if s.argNumSamples.toInt < 0 then s.argDestCap else s.argNumSamples
      state := .active
      readIndex := 0#32
      chan := 0#1
      indexInBlock := 0#32
      status := 0#4
      phase := .blockTest }

/-- DECODE is refused with the code of the first entry check that fails; `status` and `produced` change, and nothing else
(42_session_commands R174, 60_exceptions R251, R254; decisions D23, D33). -/
def Obligations.DecodeRefusedInOrder : Prop :=
  ∀ s : State,
    let refused (code : BitVec 4) : Prop := exec .decode s = .next { s with status := code, produced := 0#32 }
    let req := if s.argNumSamples.toInt < 0 then s.argDestCap else s.argNumSamples
    (s.fault ≠ 0#4 → refused 8#4) ∧
    (s.fault = 0#4 → s.ready = false → refused 6#4) ∧
    (s.fault = 0#4 → s.ready = true → s.argNumCh ≠ 1#2 → s.argNumCh ≠ 2#2 → refused 7#4) ∧
    (s.fault = 0#4 → s.ready = true → s.argNumCh = 1#2 ∨ s.argNumCh = 2#2 → 2 ^ 31 ≤ s.argDestCap.toNat → refused 7#4) ∧
    (s.fault = 0#4 → s.ready = true → s.argNumCh = 1#2 ∨ s.argNumCh = 2#2 → s.argDestCap.toNat < 2 ^ 31 →
      s.argDestCap.toNat < req.toNat → refused 7#4) ∧
    (s.fault = 0#4 → s.ready = true → s.argNumCh = 1#2 ∨ s.argNumCh = 2#2 → s.argDestCap.toNat < 2 ^ 31 →
      req.toNat ≤ s.argDestCap.toNat → s.argOffset ≠ s.readOffset → refused 2#4)

/-- The reserved command code reports `BadRequest` and changes nothing else (42_session_commands R171; decision D36). -/
def Obligations.ReservedCommandReports : Prop :=
  ∀ s : State, exec .cmdReserved s = .next { s with status := 7#4, produced := 0#32 }

/-- A write to `CMD` while Active does not take effect and is not queued (42_session_commands R170; decision D27). -/
def Obligations.CommandDroppedWhileActive : Prop :=
  ∀ (s : State) (w : Word), s.state = .active → s.port = some (.write 0 w) → step s = .next { s with port := none }

/-- A latched fault stays as it is in every step but the commands RESET and SETUP, which clear it; a DECODE meanwhile is refused with
`Faulted` (60_exceptions R252; decision D21). -/
def Obligations.FaultIsSticky : Prop :=
  (∀ s t : State, s.fault ≠ 0#4 → step s = .next t → ¬ commandAt s 0#2 → ¬ commandAt s 1#2 → t.fault = s.fault) ∧
  (∀ s t : State, step s = .next t → commandAt s 0#2 ∨ commandAt s 1#2 → t.fault = 0#4) ∧
  (∀ s : State, s.fault ≠ 0#4 → exec .decode s = .next { s with status := 8#4, produced := 0#32 })

/-! ## The loop controller -/

/-- The loop tests of a DECODE: the request before the end of the stream, and the wait where the host has done neither
(43_loop_control R190, R192, R197; 20_memory R62, R64; decision D19). Stated for the build without instrumentation.
That each test is a step, and a wait a step that changes nothing, is the model's choice (log entries 7, 9). -/
def Obligations.LoopTests : Prop :=
  ∀ s : State, s.port = none → s.state = .active → s.phase = .blockTest → s.perfEnable = false →
    let returned (code : BitVec 4) : Prop := step s = .next { s with
      status := code, produced := s.readIndex, readOffset := s.readOffset + s.readIndex, state := .idle }
    (s.reqSamples.toNat ≤ s.readIndex.toNat → returned s.status) ∧
    (s.readIndex.toNat < s.reqSamples.toNat → s.stream = [] → s.streamEnded = true → returned 1#4) ∧
    (s.readIndex.toNat < s.reqSamples.toNat → s.stream = [] → s.streamEnded = false → step s = .next s)

/-- A block begins with its quota, `min(reqSamples - readIndex, 4096)` (43_loop_control R193; decision D17).
That it is a step of its own is the model's choice (log entry 7). -/
def Obligations.BlockBegins : Prop :=
  ∀ s : State, s.port = none → s.state = .active → s.phase = .blockTest → s.stream ≠ [] →
    s.readIndex.toNat < s.reqSamples.toNat →
    ∃ q : Word, q.toNat = min (s.reqSamples.toNat - s.readIndex.toNat) 4096 ∧
      step s = .next { s with indexInBlock := 0#32, numTodo := q, phase := .cycle }

/-- A block ends when its quota is filled: `readIndex` advances after the last channel only, and a stereo destination changes the
channel (43_loop_control R190, R191, R193, R195; decision D20).
That it is a step of its own is the model's choice (log entry 7). -/
def Obligations.BlockEnds : Prop :=
  ∀ s : State, s.port = none → s.state = .active → s.phase = .cycle → s.numTodo.toNat ≤ s.indexInBlock.toNat →
    (s.numCh = 1#2 → s.chan = 0#1 →
      step s = .next { s with readIndex := s.readIndex + s.indexInBlock, phase := .blockTest }) ∧
    (s.numCh = 2#2 → s.chan = 0#1 → step s = .next { s with chan := 1#1, phase := .blockTest }) ∧
    (s.numCh = 2#2 → s.chan = 1#1 →
      step s = .next { s with readIndex := s.readIndex + s.indexInBlock, chan := 0#1, phase := .blockTest })

/-! ## The register port and the instrumentation -/

/-- Reads of the register map (10_state R34; decision D25): the fields of `STATUS`, the views of the registers, 0 for a write-only
register and for a reserved address. A read changes nothing but the port.
That the answer stands in `portData`, and that an access is served before the core goes on, is the model's choice (log entry 8). -/
def Obligations.RegisterReads : Prop :=
  ∀ (s : State) (a : Nat), s.port = some (.read a) →
    ∃ v : Word, step s = .next { s with port := none, portData := v } ∧
      (a < 5 ∨ 11 ≤ a → v = 0#32) ∧
      (a = 5 → v.extractLsb' 8 4 = s.status ∧ v.extractLsb' 4 4 = s.fault ∧ v.getLsbD 1 = s.ready ∧
        v.getLsbD 0 = decide (s.state = .active) ∧ v &&& 0xFFFFF00C#32 = 0#32) ∧
      (a = 6 → v = s.produced) ∧ (a = 7 → v = s.readOffset) ∧ (a = 8 → v = s.readIndex) ∧
      (a = 9 → v = s.indexInBlock) ∧ (a = 10 → s.perfEnable = false → v = 0#32)

/-- Writes of the register map other than `CMD` (10_state R34, R35; 93_implementation_defined U5): the `ARG_*` registers while
Idle, refused while Active; read-only registers and reserved addresses ignore a write.
The refusal while Active is the model's choice for what the spec leaves to the implementation (log entry 14). -/
def Obligations.RegisterWrites : Prop :=
  ∀ (s : State) (a : Nat) (w : Word), s.port = some (.write a w) →
    (s.state = .idle → a = 1 → step s = .next { s with port := none, argOffset := w }) ∧
    (s.state = .idle → a = 2 → step s = .next { s with port := none, argNumSamples := w }) ∧
    (s.state = .idle → a = 3 → step s = .next { s with port := none, argNumCh := w.setWidth 2 }) ∧
    (s.state = .idle → a = 4 → step s = .next { s with port := none, argDestCap := w }) ∧
    (s.state = .active → 1 ≤ a → a ≤ 4 → step s = .refused .argWriteWhileActive) ∧
    (5 ≤ a → step s = .next { s with port := none })

/-- The `ARG_*` registers keep their values across every step but a write to one of them (10_state R34). -/
def Obligations.ArgRegistersKept : Prop :=
  ∀ s t : State, step s = .next t → ¬ argWriteAt s → sameArgs s t

/-- The build's toggle is changed by no step and no host action (60_exceptions R260), and without it the instrumentation does nothing:
history and ratio stay empty, and `PERF` reads 0 (R258, R259; decision D30).
The toggle as a constant field is the model's choice (log entry 4). -/
def Obligations.InstrumentationToggle : Prop :=
  (∀ s t : State, step s = .next t → t.perfEnable = s.perfEnable) ∧
  (∀ (h : HostInput) (s t : State), hostInput h s = .next t → t.perfEnable = s.perfEnable) ∧
  (∀ s t : State, step s = .next t → s.perfEnable = false → s.perfHist = [] → s.perfRatio = 0#32 →
    t.perfHist = [] ∧ t.perfRatio = 0#32 ∧ t.readRegister 10 = 0#32)

/-- With the toggle on, a step that ends a DECODE, however it ends, appends one sample to the history and drops the oldest of a full
one, and `PERF` then reads the one sample, or the mean of those held; the commands SETUP and RESET empty the history; every
other step, a DECODE refused at its entry among them, leaves it (60_exceptions R258, R259). The samples and the rounding of the
mean are free values; this hardware builds without the instrumentation, and the field for it is log entry 4. -/
def Obligations.ThroughputHistory : Prop :=
  ∀ s t : State, s.perfEnable = true → s.perfHist.length ≤ Config.histDepth → step s = .next t →
    (endsDecode s t → ∃ x : Word, t.perfHist <:+ s.perfHist ++ [x] ∧
      t.perfHist.length = min (s.perfHist.length + 1) Config.histDepth ∧
      (t.perfHist = [x] → t.readRegister 10 = x) ∧
      (2 ≤ t.perfHist.length → t.readRegister 10 = Config.throughputMean t.perfHist)) ∧
    (commandAt s 0#2 ∨ commandAt s 1#2 → t.perfHist = [] ∧ t.perfRatio = 0#32 ∧ t.readRegister 10 = 0#32) ∧
    (¬ endsDecode s t → ¬ commandAt s 0#2 → ¬ commandAt s 1#2 → t.perfHist = s.perfHist ∧ t.perfRatio = s.perfRatio)

/-! ## The whole machine -/

/-- The state after power-on is what 10_state R39 says of it (70_reset_and_hazards R270), whatever the log chose for the rest: the
state right after reset has the values of the power-on column, and asserting the reset input in any state, in the middle of a
DECODE too, gives them and leaves the stream, its position, the destination and the build's toggle. That the reset input is a host
action between two steps is the model's choice (log entry 16). -/
def Obligations.PowerOnState : Prop :=
  PowerOnColumn State.reset ∧
  ∀ s : State, ∃ t, hostInput .powerOn s = .next t ∧ PowerOnColumn t ∧
    t.stream = s.stream ∧ t.spos = s.spos ∧ t.streamEnded = s.streamEnded ∧ t.dst0 = s.dst0 ∧ t.dst1 = s.dst1 ∧
    t.perfEnable = s.perfEnable

/-- The reset state satisfies the invariant.
The values 10_state R39 leaves open are the model's choice (log entries 1 to 3). -/
def Obligations.ResetSatisfiesInvariant : Prop := State.reset.Inv

/-- Every step from a state of the invariant that answers a next state keeps the invariant. -/
def Obligations.StepKeepsInvariant : Prop := ∀ s t : State, s.Inv → step s = .next t → t.Inv

/-- Every host action the model gives a meaning keeps the invariant.
The host actions are the model's (log entry 16). -/
def Obligations.HostInputKeepsInvariant : Prop := ∀ (h : HostInput) (s t : State), s.Inv → hostInput h s = .next t → t.Inv

/-- No step from a state of the invariant faults; the one refusal is a host's write to an `ARG_*` register while Active
(20_memory R66, 60_exceptions R249, 93_implementation_defined U5).
The faults and the refusal are the model's own (log entries 14, 15). -/
def Obligations.StepNeverFaults : Prop := ∀ s : State, s.Inv → Result.safe (step s) = true

/-- The stream is read front to back, each byte once: a step consumes a prefix of what is unread and moves `spos` by its length
(10_state R27, 60_exceptions R261). -/
def Obligations.StreamNeverRewinds : Prop :=
  ∀ s t : State, step s = .next t →
    ∃ used : List Byte, s.stream = used ++ t.stream ∧ t.spos = s.spos + used.length ∧ t.streamEnded = s.streamEnded

/-- A step writes no destination sample but in the active channel of a running DECODE, at or above `readIndex` and below `destCap`
(20_memory R66, R67; 70_reset_and_hazards R284): the samples below `readIndex` are final.
Samples the core has not written hold no value in the model (log entry 6). -/
def Obligations.DestinationWritesInBounds : Prop :=
  ∀ (s t : State) (c : BitVec 1) (i : Nat), step s = .next t → t.dstRead c i ≠ s.dstRead c i →
    s.state = .active ∧ c = s.chan ∧ c.toNat < s.numCh.toNat ∧ s.readIndex.toNat + s.indexInBlock.toNat ≤ i ∧
      i < s.destCap.toNat

/-- The destination is never read: two states that differ in the destination alone take steps that differ in it alone
(20_memory R65, 10_state R33). -/
def Obligations.DestinationNeverRead : Prop :=
  ∀ (s : State) (d0 d1 : DstMem), sameButDestination (step s) (step { s with dst0 := d0, dst1 := d1 })

/-- TEMPLATE and DIFF cycles do not depend on the old baseline: with the payload there, two states that differ in the covered part
of `base` alone give the same result (44_reconstruct R212, R216). -/
def Obligations.OldBaselineNotRead : Prop :=
  ∀ (s : State) (old new : List Sample) (payload full err rest : List Byte) (rate rateErr : BitVec 5) (n : BitVec 16)
    (k : BitVec 8), rate.toNat ≤ 16 → rateErr.toNat ≤ 16 →
    let covered (m : Nat) (vals : List Sample) : State := { s with base := vals ++ s.base.drop m }
    (old.length = n.toNat → new.length = n.toNat → CycleFits (covered n.toNat old) n.toNat → s.stream = payload ++ rest →
      payload.length = byteAmount rate.toNat n.toNat →
      exec (.template rate n) (covered n.toNat old) = exec (.template rate n) (covered n.toNat new)) ∧
    (k.toNat ≤ 12 → old.length = 2 ^ k.toNat → new.length = 2 ^ k.toNat →
      CycleFits (covered (2 ^ k.toNat) old) (2 ^ k.toNat) → s.stream = full ++ (err ++ rest) →
      full.length = byteAmount rate.toNat (numAnchors (2 ^ k.toNat)) →
      err.length = byteAmount rateErr.toNat (2 ^ k.toNat) →
      exec (.diff1 rate rateErr k) (covered (2 ^ k.toNat) old) = exec (.diff1 rate rateErr k) (covered (2 ^ k.toNat) new))

/-- Once the end of its stream is declared and no register access stands at the port, a running DECODE ends: the core is Idle after
at most `workLeft + 1` steps, none of which faults (43_loop_control R198).
What one step is, and so the bound, is the model's choice (log entries 7, 9). -/
def Obligations.DecodeEnds : Prop :=
  ∀ s : State, s.Inv → s.state = .active → s.streamEnded = true → s.port = none →
    ∃ k, k ≤ s.workLeft + 1 ∧ ∃ t, Sys2Proof.core.run k s = .next t ∧ t.state = .idle

/-- A whole DECODE of one TEMPLATE cycle that meets a mono request: five steps after the host's write to `CMD` the core is Idle with
status `OK`, the samples are counted, converted and in the destination from sample 0 on, and exactly the cycle's bytes are
consumed (42_session_commands R174, 43_loop_control R190 to R197, 44_reconstruct R212).
The number of steps is the model's choice (log entry 7). -/
def Obligations.OneCycleDecode : Prop :=
  ∀ (s : State) (w : Word) (rate : BitVec 5) (n : BitVec 16) (payload rest : List Byte),
    s.Inv → s.state = .idle → s.fault = 0#4 → s.ready = true → s.port = some (.write 0 w) → w.extractLsb' 0 2 = 2#2 →
    s.argNumCh = 1#2 → s.argOffset = s.readOffset → s.argNumSamples = n.setWidth 32 → s.argDestCap.toNat < 2 ^ 31 →
    n.toNat ≤ s.argDestCap.toNat → rate.toNat ≤ 16 → 1 ≤ n.toNat → n.toNat ≤ 4096 →
    s.stream = encode (.template rate n) ++ (payload ++ rest) → payload.length = byteAmount rate.toNat n.toNat →
    ∃ t, Sys2Proof.core.run 5 s = .next t ∧ t.state = .idle ∧ t.status = 0#4 ∧ t.fault = 0#4 ∧
      t.produced.toNat = n.toNat ∧ t.readOffset = s.readOffset + n.setWidth 32 ∧
      t.stream = rest ∧ t.spos = s.spos + 3 + payload.length ∧
      t.base = unpackRun rate.toNat n.toNat payload ++ s.base.drop n.toNat ∧
      ∀ i, t.dstRead 0#1 i =
        if i < n.toNat then ((unpackRun rate.toNat n.toNat payload).map i16ToF32)[i]? else s.dstRead 0#1 i
end

