-- ==== Sys2Proof/Laws/Memory.lean ====
section
/-!
SUPPORT. The laws of the destination memory (a read after a write; the canonical form) and of the buffers' prefix writes.
-/

namespace Sys2Proof.Machine

/-! ### The destination -/

/-- A read after a store: the stored index gives the stored pattern, every other index what it gave before. -/
theorem DstMem.read_write (m : DstMem) (i : Nat) (f : Word) (j : Nat) :
    (m.write i f).read j = if j = i then some f else m.read j := by
  induction m with
  | nil => simp [DstMem.write, DstMem.read]
  | cons p rest ih =>
    obtain ⟨a, v⟩ := p
    simp only [DstMem.write]
    split
    · simp [DstMem.read]
    · split
      · rename_i h1 h2
        subst h2
        by_cases h : j = i <;> simp [DstMem.read, h]
      · by_cases h : j = a
        · subst h
          rename_i h1 h2
          simp [DstMem.read, Ne.symm h2]
        · simp [DstMem.read, h, ih]

/-- A read after a run of stores: an index of the run gives its pattern, every other index what it gave before. -/
theorem DstMem.read_writeRun (m : DstMem) (i : Nat) (fs : List Word) (j : Nat) :
    (m.writeRun i fs).read j = if i ≤ j ∧ j < i + fs.length then fs[j - i]? else m.read j := by
  induction fs generalizing m i with
  | nil => simp only [DstMem.writeRun, List.length_nil]; rw [if_neg (by omega)]
  | cons f fs ih =>
    simp only [DstMem.writeRun, ih, DstMem.read_write, List.length_cons]
    by_cases h1 : i + 1 ≤ j ∧ j < i + 1 + fs.length
    · rw [if_pos h1, if_pos (by omega)]
      obtain ⟨k, hk⟩ : ∃ k, j - i = k + 1 := ⟨j - i - 1, by omega⟩
      rw [hk, List.getElem?_cons_succ, show j - (i + 1) = k by omega]
    · rw [if_neg h1]
      by_cases h2 : j = i
      · subst h2; simp
      · rw [if_neg h2, if_neg (by omega)]

/-- Every index of the list lies above `a`: the canonical form after a first entry at `a`. -/
theorem DstMem.wf_cons (a : Nat) (v : Word) (rest : DstMem) :
    DstMem.wf ((a, v) :: rest) = true ↔ (∀ p ∈ rest.head?, a < p.1) ∧ rest.wf = true := by
  cases rest with
  | nil => simp [DstMem.wf]
  | cons p rest => simp [DstMem.wf]

/-- A store keeps the canonical form. -/
theorem DstMem.wf_write (m : DstMem) (i : Nat) (f : Word) (h : m.wf = true) : (m.write i f).wf = true := by
  induction m with
  | nil => rfl
  | cons p rest ih =>
    obtain ⟨a, v⟩ := p
    rw [DstMem.wf_cons] at h
    simp only [DstMem.write]
    split
    · rename_i hlt
      rw [DstMem.wf_cons, DstMem.wf_cons]
      exact ⟨by simpa using hlt, h⟩
    · split
      · rename_i heq
        subst heq
        rwa [DstMem.wf_cons]
      · rename_i hlt hne
        rw [DstMem.wf_cons]
        refine ⟨?_, ih h.2⟩
        cases rest with
        | nil => simp [DstMem.write]; omega
        | cons q rest =>
          obtain ⟨b, w⟩ := q
          have hab : a < b := by simpa using h.1
          simp only [DstMem.write]
          split
          · simp; omega
          · split
            · rename_i h2; subst h2; simpa using hab
            · simpa using hab

/-- A run of stores keeps the canonical form. -/
theorem DstMem.wf_writeRun (m : DstMem) (i : Nat) (fs : List Word) (h : m.wf = true) : (m.writeRun i fs).wf = true := by
  induction fs generalizing m i with
  | nil => exact h
  | cons f fs ih => exact ih _ _ (DstMem.wf_write m i f h)

/-- The destination after reset is in canonical form. -/
theorem State.reset_dst_wf : State.reset.dst0.wf = true ∧ State.reset.dst1.wf = true := ⟨rfl, rfl⟩

/-! ### Prefix writes -/

@[simp] theorem overwrite_length {α : Type} (vals buf : List α) :
    (overwrite vals buf).length = max vals.length buf.length := by
  simp [overwrite]; omega

/-- Where the prefix fits, a write keeps the buffer's length. -/
theorem overwrite_length_of_le {α : Type} {vals buf : List α} (h : vals.length ≤ buf.length) :
    (overwrite vals buf).length = buf.length := by
  simp [h]

/-- The written prefix. -/
@[simp] theorem overwrite_take {α : Type} (vals buf : List α) : (overwrite vals buf).take vals.length = vals := by
  simp [overwrite]

/-- The entries above the prefix keep their contents (44_reconstruct R218). -/
@[simp] theorem overwrite_drop {α : Type} (vals buf : List α) :
    (overwrite vals buf).drop vals.length = buf.drop vals.length := by
  simp [overwrite]

@[simp] theorem unpackRun_length (r c : Nat) (src : List Byte) : (unpackRun r c src).length = c := by
  simp [unpackRun]

@[simp] theorem holdAnchors_length (anchors : List Sample) (n : Nat) : (holdAnchors anchors n).length = n := by
  simp [holdAnchors]

@[simp] theorem addRun_length (a b : List Sample) : (addRun a b).length = min a.length b.length := by
  simp [addRun]

@[simp] theorem freeStage_length (d i n : Nat) : (freeStage d i n).length = n := by
  induction n generalizing i with
  | zero => rfl
  | succ n ih => simp [freeStage, ih]

@[simp] theorem pushThroughput_length (hist : List Word) (t : Word) :
    (pushThroughput hist t).length = if hist.length < Config.histDepth then hist.length + 1 else hist.length - 1 + 1 := by
  unfold pushThroughput; split <;> simp

/-! ### Packed runs -/

/-- A packed run is read from its own bytes alone: what stands behind them in `stage` has no effect (41_bitrate_unpack R142,
30_encoding R103). -/
theorem unpackRun_append {r c : Nat} {run rest : List Byte} (h : byteAmount r c ≤ run.length) :
    unpackRun r c (run ++ rest) = unpackRun r c run := by
  refine List.map_congr_left fun i hi => ?_
  have hi : i < c := by simpa using hi
  unfold unpackValue
  split
  · rfl
  · congr 1
    have key : ∀ w, w ≤ r → packedField (run ++ rest) (i * r) w = packedField run (i * r) w := by
      intro w hw
      induction w with
      | zero => rfl
      | succ w ih =>
        have hlt : (i * r + w) / 8 < run.length := by
          have : i * r + r ≤ r * c := by
            calc i * r + r = r * (i + 1) := by ring
              _ ≤ r * c := Nat.mul_le_mul_left _ hi
          unfold byteAmount at h; omega
        simp only [packedField, ih (by omega), payloadBit, List.getD_append _ _ _ _ hlt]
    rw [key r le_rfl]

end Sys2Proof.Machine
end

