-- ==== Sys2Proof/Laws/State.lean ====
section
/-!
SUPPORT. One lemma for each field and each named update of the state: what the update writes, and that it leaves every other
field alone.
-/

namespace Sys2Proof.Machine

variable (s : State)

/-! A stream read moves the position and nothing else (20_memory R63). -/

@[simp] theorem State.consume_state (m : Nat) : (s.consume m).state = s.state := rfl
@[simp] theorem State.consume_ready (m : Nat) : (s.consume m).ready = s.ready := rfl
@[simp] theorem State.consume_readIndex (m : Nat) : (s.consume m).readIndex = s.readIndex := rfl
@[simp] theorem State.consume_indexInBlock (m : Nat) : (s.consume m).indexInBlock = s.indexInBlock := rfl
@[simp] theorem State.consume_readOffset (m : Nat) : (s.consume m).readOffset = s.readOffset := rfl
@[simp] theorem State.consume_reqSamples (m : Nat) : (s.consume m).reqSamples = s.reqSamples := rfl
@[simp] theorem State.consume_numCh (m : Nat) : (s.consume m).numCh = s.numCh := rfl
@[simp] theorem State.consume_destCap (m : Nat) : (s.consume m).destCap = s.destCap := rfl
@[simp] theorem State.consume_chan (m : Nat) : (s.consume m).chan = s.chan := rfl
@[simp] theorem State.consume_numTodo (m : Nat) : (s.consume m).numTodo = s.numTodo := rfl
@[simp] theorem State.consume_hdrInfo (m : Nat) : (s.consume m).hdrInfo = s.hdrInfo := rfl
@[simp] theorem State.consume_hdrNum (m : Nat) : (s.consume m).hdrNum = s.hdrNum := rfl
@[simp] theorem State.consume_status (m : Nat) : (s.consume m).status = s.status := rfl
@[simp] theorem State.consume_produced (m : Nat) : (s.consume m).produced = s.produced := rfl
@[simp] theorem State.consume_fault (m : Nat) : (s.consume m).fault = s.fault := rfl
@[simp] theorem State.consume_base (m : Nat) : (s.consume m).base = s.base := rfl
@[simp] theorem State.consume_work (m : Nat) : (s.consume m).work = s.work := rfl
@[simp] theorem State.consume_stage (m : Nat) : (s.consume m).stage = s.stage := rfl
@[simp] theorem State.consume_argOffset (m : Nat) : (s.consume m).argOffset = s.argOffset := rfl
@[simp] theorem State.consume_argNumSamples (m : Nat) : (s.consume m).argNumSamples = s.argNumSamples := rfl
@[simp] theorem State.consume_argNumCh (m : Nat) : (s.consume m).argNumCh = s.argNumCh := rfl
@[simp] theorem State.consume_argDestCap (m : Nat) : (s.consume m).argDestCap = s.argDestCap := rfl
@[simp] theorem State.consume_perfEnable (m : Nat) : (s.consume m).perfEnable = s.perfEnable := rfl
@[simp] theorem State.consume_perfHist (m : Nat) : (s.consume m).perfHist = s.perfHist := rfl
@[simp] theorem State.consume_perfRatio (m : Nat) : (s.consume m).perfRatio = s.perfRatio := rfl
@[simp] theorem State.consume_stream (m : Nat) : (s.consume m).stream = s.stream.drop m := rfl
@[simp] theorem State.consume_spos (m : Nat) : (s.consume m).spos = s.spos + m := rfl
@[simp] theorem State.consume_streamEnded (m : Nat) : (s.consume m).streamEnded = s.streamEnded := rfl
@[simp] theorem State.consume_dst0 (m : Nat) : (s.consume m).dst0 = s.dst0 := rfl
@[simp] theorem State.consume_dst1 (m : Nat) : (s.consume m).dst1 = s.dst1 := rfl
@[simp] theorem State.consume_phase (m : Nat) : (s.consume m).phase = s.phase := rfl
@[simp] theorem State.consume_job (m : Nat) : (s.consume m).job = s.job := rfl
@[simp] theorem State.consume_port (m : Nat) : (s.consume m).port = s.port := rfl
@[simp] theorem State.consume_portData (m : Nat) : (s.consume m).portData = s.portData := rfl
@[simp] theorem State.consume_draws (m : Nat) : (s.consume m).draws = s.draws := rfl

/-! Latching a header (40_cycle_header R120). -/

@[simp] theorem State.latchHeader_state (info : Byte) (num : BitVec 16) : (s.latchHeader info num).state = s.state := rfl
@[simp] theorem State.latchHeader_ready (info : Byte) (num : BitVec 16) : (s.latchHeader info num).ready = s.ready := rfl
@[simp] theorem State.latchHeader_readIndex (info : Byte) (num : BitVec 16) :
    (s.latchHeader info num).readIndex = s.readIndex := rfl
@[simp] theorem State.latchHeader_indexInBlock (info : Byte) (num : BitVec 16) :
    (s.latchHeader info num).indexInBlock = s.indexInBlock := rfl
@[simp] theorem State.latchHeader_readOffset (info : Byte) (num : BitVec 16) :
    (s.latchHeader info num).readOffset = s.readOffset := rfl
@[simp] theorem State.latchHeader_reqSamples (info : Byte) (num : BitVec 16) :
    (s.latchHeader info num).reqSamples = s.reqSamples := rfl
@[simp] theorem State.latchHeader_numCh (info : Byte) (num : BitVec 16) : (s.latchHeader info num).numCh = s.numCh := rfl
@[simp] theorem State.latchHeader_destCap (info : Byte) (num : BitVec 16) :
    (s.latchHeader info num).destCap = s.destCap := rfl
@[simp] theorem State.latchHeader_chan (info : Byte) (num : BitVec 16) : (s.latchHeader info num).chan = s.chan := rfl
@[simp] theorem State.latchHeader_numTodo (info : Byte) (num : BitVec 16) :
    (s.latchHeader info num).numTodo = s.numTodo := rfl
@[simp] theorem State.latchHeader_hdrInfo (info : Byte) (num : BitVec 16) : (s.latchHeader info num).hdrInfo = info := rfl
@[simp] theorem State.latchHeader_hdrNum (info : Byte) (num : BitVec 16) : (s.latchHeader info num).hdrNum = num := rfl
@[simp] theorem State.latchHeader_status (info : Byte) (num : BitVec 16) : (s.latchHeader info num).status = s.status := rfl
@[simp] theorem State.latchHeader_produced (info : Byte) (num : BitVec 16) :
    (s.latchHeader info num).produced = s.produced := rfl
@[simp] theorem State.latchHeader_fault (info : Byte) (num : BitVec 16) : (s.latchHeader info num).fault = s.fault := rfl
@[simp] theorem State.latchHeader_base (info : Byte) (num : BitVec 16) : (s.latchHeader info num).base = s.base := rfl
@[simp] theorem State.latchHeader_work (info : Byte) (num : BitVec 16) : (s.latchHeader info num).work = s.work := rfl
@[simp] theorem State.latchHeader_stage (info : Byte) (num : BitVec 16) : (s.latchHeader info num).stage = s.stage := rfl
@[simp] theorem State.latchHeader_argOffset (info : Byte) (num : BitVec 16) :
    (s.latchHeader info num).argOffset = s.argOffset := rfl
@[simp] theorem State.latchHeader_argNumSamples (info : Byte) (num : BitVec 16) :
    (s.latchHeader info num).argNumSamples = s.argNumSamples := rfl
@[simp] theorem State.latchHeader_argNumCh (info : Byte) (num : BitVec 16) :
    (s.latchHeader info num).argNumCh = s.argNumCh := rfl
@[simp] theorem State.latchHeader_argDestCap (info : Byte) (num : BitVec 16) :
    (s.latchHeader info num).argDestCap = s.argDestCap := rfl
@[simp] theorem State.latchHeader_perfEnable (info : Byte) (num : BitVec 16) :
    (s.latchHeader info num).perfEnable = s.perfEnable := rfl
@[simp] theorem State.latchHeader_perfHist (info : Byte) (num : BitVec 16) :
    (s.latchHeader info num).perfHist = s.perfHist := rfl
@[simp] theorem State.latchHeader_perfRatio (info : Byte) (num : BitVec 16) :
    (s.latchHeader info num).perfRatio = s.perfRatio := rfl
@[simp] theorem State.latchHeader_stream (info : Byte) (num : BitVec 16) : (s.latchHeader info num).stream = s.stream := rfl
@[simp] theorem State.latchHeader_spos (info : Byte) (num : BitVec 16) : (s.latchHeader info num).spos = s.spos := rfl
@[simp] theorem State.latchHeader_streamEnded (info : Byte) (num : BitVec 16) :
    (s.latchHeader info num).streamEnded = s.streamEnded := rfl
@[simp] theorem State.latchHeader_dst0 (info : Byte) (num : BitVec 16) : (s.latchHeader info num).dst0 = s.dst0 := rfl
@[simp] theorem State.latchHeader_dst1 (info : Byte) (num : BitVec 16) : (s.latchHeader info num).dst1 = s.dst1 := rfl
@[simp] theorem State.latchHeader_phase (info : Byte) (num : BitVec 16) : (s.latchHeader info num).phase = s.phase := rfl
@[simp] theorem State.latchHeader_job (info : Byte) (num : BitVec 16) : (s.latchHeader info num).job = s.job := rfl
@[simp] theorem State.latchHeader_port (info : Byte) (num : BitVec 16) : (s.latchHeader info num).port = s.port := rfl
@[simp] theorem State.latchHeader_portData (info : Byte) (num : BitVec 16) :
    (s.latchHeader info num).portData = s.portData := rfl
@[simp] theorem State.latchHeader_draws (info : Byte) (num : BitVec 16) : (s.latchHeader info num).draws = s.draws := rfl

/-! A write of a prefix of `base`. -/

@[simp] theorem State.setBase_state (vals : List Sample) : (s.setBase vals).state = s.state := rfl
@[simp] theorem State.setBase_ready (vals : List Sample) : (s.setBase vals).ready = s.ready := rfl
@[simp] theorem State.setBase_readIndex (vals : List Sample) : (s.setBase vals).readIndex = s.readIndex := rfl
@[simp] theorem State.setBase_indexInBlock (vals : List Sample) : (s.setBase vals).indexInBlock = s.indexInBlock := rfl
@[simp] theorem State.setBase_readOffset (vals : List Sample) : (s.setBase vals).readOffset = s.readOffset := rfl
@[simp] theorem State.setBase_reqSamples (vals : List Sample) : (s.setBase vals).reqSamples = s.reqSamples := rfl
@[simp] theorem State.setBase_numCh (vals : List Sample) : (s.setBase vals).numCh = s.numCh := rfl
@[simp] theorem State.setBase_destCap (vals : List Sample) : (s.setBase vals).destCap = s.destCap := rfl
@[simp] theorem State.setBase_chan (vals : List Sample) : (s.setBase vals).chan = s.chan := rfl
@[simp] theorem State.setBase_numTodo (vals : List Sample) : (s.setBase vals).numTodo = s.numTodo := rfl
@[simp] theorem State.setBase_hdrInfo (vals : List Sample) : (s.setBase vals).hdrInfo = s.hdrInfo := rfl
@[simp] theorem State.setBase_hdrNum (vals : List Sample) : (s.setBase vals).hdrNum = s.hdrNum := rfl
@[simp] theorem State.setBase_status (vals : List Sample) : (s.setBase vals).status = s.status := rfl
@[simp] theorem State.setBase_produced (vals : List Sample) : (s.setBase vals).produced = s.produced := rfl
@[simp] theorem State.setBase_fault (vals : List Sample) : (s.setBase vals).fault = s.fault := rfl
@[simp] theorem State.setBase_base (vals : List Sample) : (s.setBase vals).base = overwrite vals s.base := rfl
@[simp] theorem State.setBase_work (vals : List Sample) : (s.setBase vals).work = s.work := rfl
@[simp] theorem State.setBase_stage (vals : List Sample) : (s.setBase vals).stage = s.stage := rfl
@[simp] theorem State.setBase_argOffset (vals : List Sample) : (s.setBase vals).argOffset = s.argOffset := rfl
@[simp] theorem State.setBase_argNumSamples (vals : List Sample) : (s.setBase vals).argNumSamples = s.argNumSamples := rfl
@[simp] theorem State.setBase_argNumCh (vals : List Sample) : (s.setBase vals).argNumCh = s.argNumCh := rfl
@[simp] theorem State.setBase_argDestCap (vals : List Sample) : (s.setBase vals).argDestCap = s.argDestCap := rfl
@[simp] theorem State.setBase_perfEnable (vals : List Sample) : (s.setBase vals).perfEnable = s.perfEnable := rfl
@[simp] theorem State.setBase_perfHist (vals : List Sample) : (s.setBase vals).perfHist = s.perfHist := rfl
@[simp] theorem State.setBase_perfRatio (vals : List Sample) : (s.setBase vals).perfRatio = s.perfRatio := rfl
@[simp] theorem State.setBase_stream (vals : List Sample) : (s.setBase vals).stream = s.stream := rfl
@[simp] theorem State.setBase_spos (vals : List Sample) : (s.setBase vals).spos = s.spos := rfl
@[simp] theorem State.setBase_streamEnded (vals : List Sample) : (s.setBase vals).streamEnded = s.streamEnded := rfl
@[simp] theorem State.setBase_dst0 (vals : List Sample) : (s.setBase vals).dst0 = s.dst0 := rfl
@[simp] theorem State.setBase_dst1 (vals : List Sample) : (s.setBase vals).dst1 = s.dst1 := rfl
@[simp] theorem State.setBase_phase (vals : List Sample) : (s.setBase vals).phase = s.phase := rfl
@[simp] theorem State.setBase_job (vals : List Sample) : (s.setBase vals).job = s.job := rfl
@[simp] theorem State.setBase_port (vals : List Sample) : (s.setBase vals).port = s.port := rfl
@[simp] theorem State.setBase_portData (vals : List Sample) : (s.setBase vals).portData = s.portData := rfl
@[simp] theorem State.setBase_draws (vals : List Sample) : (s.setBase vals).draws = s.draws := rfl

/-! A write of a prefix of `work`. -/

@[simp] theorem State.setWork_state (vals : List Sample) : (s.setWork vals).state = s.state := rfl
@[simp] theorem State.setWork_ready (vals : List Sample) : (s.setWork vals).ready = s.ready := rfl
@[simp] theorem State.setWork_readIndex (vals : List Sample) : (s.setWork vals).readIndex = s.readIndex := rfl
@[simp] theorem State.setWork_indexInBlock (vals : List Sample) : (s.setWork vals).indexInBlock = s.indexInBlock := rfl
@[simp] theorem State.setWork_readOffset (vals : List Sample) : (s.setWork vals).readOffset = s.readOffset := rfl
@[simp] theorem State.setWork_reqSamples (vals : List Sample) : (s.setWork vals).reqSamples = s.reqSamples := rfl
@[simp] theorem State.setWork_numCh (vals : List Sample) : (s.setWork vals).numCh = s.numCh := rfl
@[simp] theorem State.setWork_destCap (vals : List Sample) : (s.setWork vals).destCap = s.destCap := rfl
@[simp] theorem State.setWork_chan (vals : List Sample) : (s.setWork vals).chan = s.chan := rfl
@[simp] theorem State.setWork_numTodo (vals : List Sample) : (s.setWork vals).numTodo = s.numTodo := rfl
@[simp] theorem State.setWork_hdrInfo (vals : List Sample) : (s.setWork vals).hdrInfo = s.hdrInfo := rfl
@[simp] theorem State.setWork_hdrNum (vals : List Sample) : (s.setWork vals).hdrNum = s.hdrNum := rfl
@[simp] theorem State.setWork_status (vals : List Sample) : (s.setWork vals).status = s.status := rfl
@[simp] theorem State.setWork_produced (vals : List Sample) : (s.setWork vals).produced = s.produced := rfl
@[simp] theorem State.setWork_fault (vals : List Sample) : (s.setWork vals).fault = s.fault := rfl
@[simp] theorem State.setWork_base (vals : List Sample) : (s.setWork vals).base = s.base := rfl
@[simp] theorem State.setWork_work (vals : List Sample) : (s.setWork vals).work = overwrite vals s.work := rfl
@[simp] theorem State.setWork_stage (vals : List Sample) : (s.setWork vals).stage = s.stage := rfl
@[simp] theorem State.setWork_argOffset (vals : List Sample) : (s.setWork vals).argOffset = s.argOffset := rfl
@[simp] theorem State.setWork_argNumSamples (vals : List Sample) : (s.setWork vals).argNumSamples = s.argNumSamples := rfl
@[simp] theorem State.setWork_argNumCh (vals : List Sample) : (s.setWork vals).argNumCh = s.argNumCh := rfl
@[simp] theorem State.setWork_argDestCap (vals : List Sample) : (s.setWork vals).argDestCap = s.argDestCap := rfl
@[simp] theorem State.setWork_perfEnable (vals : List Sample) : (s.setWork vals).perfEnable = s.perfEnable := rfl
@[simp] theorem State.setWork_perfHist (vals : List Sample) : (s.setWork vals).perfHist = s.perfHist := rfl
@[simp] theorem State.setWork_perfRatio (vals : List Sample) : (s.setWork vals).perfRatio = s.perfRatio := rfl
@[simp] theorem State.setWork_stream (vals : List Sample) : (s.setWork vals).stream = s.stream := rfl
@[simp] theorem State.setWork_spos (vals : List Sample) : (s.setWork vals).spos = s.spos := rfl
@[simp] theorem State.setWork_streamEnded (vals : List Sample) : (s.setWork vals).streamEnded = s.streamEnded := rfl
@[simp] theorem State.setWork_dst0 (vals : List Sample) : (s.setWork vals).dst0 = s.dst0 := rfl
@[simp] theorem State.setWork_dst1 (vals : List Sample) : (s.setWork vals).dst1 = s.dst1 := rfl
@[simp] theorem State.setWork_phase (vals : List Sample) : (s.setWork vals).phase = s.phase := rfl
@[simp] theorem State.setWork_job (vals : List Sample) : (s.setWork vals).job = s.job := rfl
@[simp] theorem State.setWork_port (vals : List Sample) : (s.setWork vals).port = s.port := rfl
@[simp] theorem State.setWork_portData (vals : List Sample) : (s.setWork vals).portData = s.portData := rfl
@[simp] theorem State.setWork_draws (vals : List Sample) : (s.setWork vals).draws = s.draws := rfl

/-! A write of a prefix of `stage`. -/

@[simp] theorem State.setStage_state (bytes : List Byte) : (s.setStage bytes).state = s.state := rfl
@[simp] theorem State.setStage_ready (bytes : List Byte) : (s.setStage bytes).ready = s.ready := rfl
@[simp] theorem State.setStage_readIndex (bytes : List Byte) : (s.setStage bytes).readIndex = s.readIndex := rfl
@[simp] theorem State.setStage_indexInBlock (bytes : List Byte) : (s.setStage bytes).indexInBlock = s.indexInBlock := rfl
@[simp] theorem State.setStage_readOffset (bytes : List Byte) : (s.setStage bytes).readOffset = s.readOffset := rfl
@[simp] theorem State.setStage_reqSamples (bytes : List Byte) : (s.setStage bytes).reqSamples = s.reqSamples := rfl
@[simp] theorem State.setStage_numCh (bytes : List Byte) : (s.setStage bytes).numCh = s.numCh := rfl
@[simp] theorem State.setStage_destCap (bytes : List Byte) : (s.setStage bytes).destCap = s.destCap := rfl
@[simp] theorem State.setStage_chan (bytes : List Byte) : (s.setStage bytes).chan = s.chan := rfl
@[simp] theorem State.setStage_numTodo (bytes : List Byte) : (s.setStage bytes).numTodo = s.numTodo := rfl
@[simp] theorem State.setStage_hdrInfo (bytes : List Byte) : (s.setStage bytes).hdrInfo = s.hdrInfo := rfl
@[simp] theorem State.setStage_hdrNum (bytes : List Byte) : (s.setStage bytes).hdrNum = s.hdrNum := rfl
@[simp] theorem State.setStage_status (bytes : List Byte) : (s.setStage bytes).status = s.status := rfl
@[simp] theorem State.setStage_produced (bytes : List Byte) : (s.setStage bytes).produced = s.produced := rfl
@[simp] theorem State.setStage_fault (bytes : List Byte) : (s.setStage bytes).fault = s.fault := rfl
@[simp] theorem State.setStage_base (bytes : List Byte) : (s.setStage bytes).base = s.base := rfl
@[simp] theorem State.setStage_work (bytes : List Byte) : (s.setStage bytes).work = s.work := rfl
@[simp] theorem State.setStage_stage (bytes : List Byte) : (s.setStage bytes).stage = overwrite bytes s.stage := rfl
@[simp] theorem State.setStage_argOffset (bytes : List Byte) : (s.setStage bytes).argOffset = s.argOffset := rfl
@[simp] theorem State.setStage_argNumSamples (bytes : List Byte) : (s.setStage bytes).argNumSamples = s.argNumSamples := rfl
@[simp] theorem State.setStage_argNumCh (bytes : List Byte) : (s.setStage bytes).argNumCh = s.argNumCh := rfl
@[simp] theorem State.setStage_argDestCap (bytes : List Byte) : (s.setStage bytes).argDestCap = s.argDestCap := rfl
@[simp] theorem State.setStage_perfEnable (bytes : List Byte) : (s.setStage bytes).perfEnable = s.perfEnable := rfl
@[simp] theorem State.setStage_perfHist (bytes : List Byte) : (s.setStage bytes).perfHist = s.perfHist := rfl
@[simp] theorem State.setStage_perfRatio (bytes : List Byte) : (s.setStage bytes).perfRatio = s.perfRatio := rfl
@[simp] theorem State.setStage_stream (bytes : List Byte) : (s.setStage bytes).stream = s.stream := rfl
@[simp] theorem State.setStage_spos (bytes : List Byte) : (s.setStage bytes).spos = s.spos := rfl
@[simp] theorem State.setStage_streamEnded (bytes : List Byte) : (s.setStage bytes).streamEnded = s.streamEnded := rfl
@[simp] theorem State.setStage_dst0 (bytes : List Byte) : (s.setStage bytes).dst0 = s.dst0 := rfl
@[simp] theorem State.setStage_dst1 (bytes : List Byte) : (s.setStage bytes).dst1 = s.dst1 := rfl
@[simp] theorem State.setStage_phase (bytes : List Byte) : (s.setStage bytes).phase = s.phase := rfl
@[simp] theorem State.setStage_job (bytes : List Byte) : (s.setStage bytes).job = s.job := rfl
@[simp] theorem State.setStage_port (bytes : List Byte) : (s.setStage bytes).port = s.port := rfl
@[simp] theorem State.setStage_portData (bytes : List Byte) : (s.setStage bytes).portData = s.portData := rfl
@[simp] theorem State.setStage_draws (bytes : List Byte) : (s.setStage bytes).draws = s.draws := rfl

/-! The operands of a FetchUnpack are latched. -/

@[simp] theorem State.startJob_state (j : Job) : (s.startJob j).state = s.state := rfl
@[simp] theorem State.startJob_ready (j : Job) : (s.startJob j).ready = s.ready := rfl
@[simp] theorem State.startJob_readIndex (j : Job) : (s.startJob j).readIndex = s.readIndex := rfl
@[simp] theorem State.startJob_indexInBlock (j : Job) : (s.startJob j).indexInBlock = s.indexInBlock := rfl
@[simp] theorem State.startJob_readOffset (j : Job) : (s.startJob j).readOffset = s.readOffset := rfl
@[simp] theorem State.startJob_reqSamples (j : Job) : (s.startJob j).reqSamples = s.reqSamples := rfl
@[simp] theorem State.startJob_numCh (j : Job) : (s.startJob j).numCh = s.numCh := rfl
@[simp] theorem State.startJob_destCap (j : Job) : (s.startJob j).destCap = s.destCap := rfl
@[simp] theorem State.startJob_chan (j : Job) : (s.startJob j).chan = s.chan := rfl
@[simp] theorem State.startJob_numTodo (j : Job) : (s.startJob j).numTodo = s.numTodo := rfl
@[simp] theorem State.startJob_hdrInfo (j : Job) : (s.startJob j).hdrInfo = s.hdrInfo := rfl
@[simp] theorem State.startJob_hdrNum (j : Job) : (s.startJob j).hdrNum = s.hdrNum := rfl
@[simp] theorem State.startJob_status (j : Job) : (s.startJob j).status = s.status := rfl
@[simp] theorem State.startJob_produced (j : Job) : (s.startJob j).produced = s.produced := rfl
@[simp] theorem State.startJob_fault (j : Job) : (s.startJob j).fault = s.fault := rfl
@[simp] theorem State.startJob_base (j : Job) : (s.startJob j).base = s.base := rfl
@[simp] theorem State.startJob_work (j : Job) : (s.startJob j).work = s.work := rfl
@[simp] theorem State.startJob_stage (j : Job) : (s.startJob j).stage = s.stage := rfl
@[simp] theorem State.startJob_argOffset (j : Job) : (s.startJob j).argOffset = s.argOffset := rfl
@[simp] theorem State.startJob_argNumSamples (j : Job) : (s.startJob j).argNumSamples = s.argNumSamples := rfl
@[simp] theorem State.startJob_argNumCh (j : Job) : (s.startJob j).argNumCh = s.argNumCh := rfl
@[simp] theorem State.startJob_argDestCap (j : Job) : (s.startJob j).argDestCap = s.argDestCap := rfl
@[simp] theorem State.startJob_perfEnable (j : Job) : (s.startJob j).perfEnable = s.perfEnable := rfl
@[simp] theorem State.startJob_perfHist (j : Job) : (s.startJob j).perfHist = s.perfHist := rfl
@[simp] theorem State.startJob_perfRatio (j : Job) : (s.startJob j).perfRatio = s.perfRatio := rfl
@[simp] theorem State.startJob_stream (j : Job) : (s.startJob j).stream = s.stream := rfl
@[simp] theorem State.startJob_spos (j : Job) : (s.startJob j).spos = s.spos := rfl
@[simp] theorem State.startJob_streamEnded (j : Job) : (s.startJob j).streamEnded = s.streamEnded := rfl
@[simp] theorem State.startJob_dst0 (j : Job) : (s.startJob j).dst0 = s.dst0 := rfl
@[simp] theorem State.startJob_dst1 (j : Job) : (s.startJob j).dst1 = s.dst1 := rfl
@[simp] theorem State.startJob_phase (j : Job) : (s.startJob j).phase = .payload := rfl
@[simp] theorem State.startJob_job (j : Job) : (s.startJob j).job = j := rfl
@[simp] theorem State.startJob_port (j : Job) : (s.startJob j).port = s.port := rfl
@[simp] theorem State.startJob_portData (j : Job) : (s.startJob j).portData = s.portData := rfl
@[simp] theorem State.startJob_draws (j : Job) : (s.startJob j).draws = s.draws := rfl

/-! The end of a block (43_loop_control R195). -/

@[simp] theorem State.finishBlock_state : s.finishBlock.state = s.state := rfl
@[simp] theorem State.finishBlock_ready : s.finishBlock.ready = s.ready := rfl
@[simp] theorem State.finishBlock_readIndex :
    s.finishBlock.readIndex = if s.chan.toNat + 1 = s.numCh.toNat then s.readIndex + s.indexInBlock else s.readIndex := rfl
@[simp] theorem State.finishBlock_indexInBlock : s.finishBlock.indexInBlock = s.indexInBlock := rfl
@[simp] theorem State.finishBlock_readOffset : s.finishBlock.readOffset = s.readOffset := rfl
@[simp] theorem State.finishBlock_reqSamples : s.finishBlock.reqSamples = s.reqSamples := rfl
@[simp] theorem State.finishBlock_numCh : s.finishBlock.numCh = s.numCh := rfl
@[simp] theorem State.finishBlock_destCap : s.finishBlock.destCap = s.destCap := rfl
@[simp] theorem State.finishBlock_chan : s.finishBlock.chan = s.chan := rfl
@[simp] theorem State.finishBlock_numTodo : s.finishBlock.numTodo = s.numTodo := rfl
@[simp] theorem State.finishBlock_hdrInfo : s.finishBlock.hdrInfo = s.hdrInfo := rfl
@[simp] theorem State.finishBlock_hdrNum : s.finishBlock.hdrNum = s.hdrNum := rfl
@[simp] theorem State.finishBlock_status : s.finishBlock.status = s.status := rfl
@[simp] theorem State.finishBlock_produced : s.finishBlock.produced = s.produced := rfl
@[simp] theorem State.finishBlock_fault : s.finishBlock.fault = s.fault := rfl
@[simp] theorem State.finishBlock_base : s.finishBlock.base = s.base := rfl
@[simp] theorem State.finishBlock_work : s.finishBlock.work = s.work := rfl
@[simp] theorem State.finishBlock_stage : s.finishBlock.stage = s.stage := rfl
@[simp] theorem State.finishBlock_argOffset : s.finishBlock.argOffset = s.argOffset := rfl
@[simp] theorem State.finishBlock_argNumSamples : s.finishBlock.argNumSamples = s.argNumSamples := rfl
@[simp] theorem State.finishBlock_argNumCh : s.finishBlock.argNumCh = s.argNumCh := rfl
@[simp] theorem State.finishBlock_argDestCap : s.finishBlock.argDestCap = s.argDestCap := rfl
@[simp] theorem State.finishBlock_perfEnable : s.finishBlock.perfEnable = s.perfEnable := rfl
@[simp] theorem State.finishBlock_perfHist : s.finishBlock.perfHist = s.perfHist := rfl
@[simp] theorem State.finishBlock_perfRatio : s.finishBlock.perfRatio = s.perfRatio := rfl
@[simp] theorem State.finishBlock_stream : s.finishBlock.stream = s.stream := rfl
@[simp] theorem State.finishBlock_spos : s.finishBlock.spos = s.spos := rfl
@[simp] theorem State.finishBlock_streamEnded : s.finishBlock.streamEnded = s.streamEnded := rfl
@[simp] theorem State.finishBlock_dst0 : s.finishBlock.dst0 = s.dst0 := rfl
@[simp] theorem State.finishBlock_dst1 : s.finishBlock.dst1 = s.dst1 := rfl
@[simp] theorem State.finishBlock_phase : s.finishBlock.phase = s.phase := rfl
@[simp] theorem State.finishBlock_job : s.finishBlock.job = s.job := rfl
@[simp] theorem State.finishBlock_port : s.finishBlock.port = s.port := rfl
@[simp] theorem State.finishBlock_portData : s.finishBlock.portData = s.portData := rfl
@[simp] theorem State.finishBlock_draws : s.finishBlock.draws = s.draws := rfl

/-! The throughput recording (60_exceptions R258). -/

@[simp] theorem State.recordThroughput_state : s.recordThroughput.state = s.state := rfl
@[simp] theorem State.recordThroughput_ready : s.recordThroughput.ready = s.ready := rfl
@[simp] theorem State.recordThroughput_readIndex : s.recordThroughput.readIndex = s.readIndex := rfl
@[simp] theorem State.recordThroughput_indexInBlock : s.recordThroughput.indexInBlock = s.indexInBlock := rfl
@[simp] theorem State.recordThroughput_readOffset : s.recordThroughput.readOffset = s.readOffset := rfl
@[simp] theorem State.recordThroughput_reqSamples : s.recordThroughput.reqSamples = s.reqSamples := rfl
@[simp] theorem State.recordThroughput_numCh : s.recordThroughput.numCh = s.numCh := rfl
@[simp] theorem State.recordThroughput_destCap : s.recordThroughput.destCap = s.destCap := rfl
@[simp] theorem State.recordThroughput_chan : s.recordThroughput.chan = s.chan := rfl
@[simp] theorem State.recordThroughput_numTodo : s.recordThroughput.numTodo = s.numTodo := rfl
@[simp] theorem State.recordThroughput_hdrInfo : s.recordThroughput.hdrInfo = s.hdrInfo := rfl
@[simp] theorem State.recordThroughput_hdrNum : s.recordThroughput.hdrNum = s.hdrNum := rfl
@[simp] theorem State.recordThroughput_status : s.recordThroughput.status = s.status := rfl
@[simp] theorem State.recordThroughput_produced : s.recordThroughput.produced = s.produced := rfl
@[simp] theorem State.recordThroughput_fault : s.recordThroughput.fault = s.fault := rfl
@[simp] theorem State.recordThroughput_base : s.recordThroughput.base = s.base := rfl
@[simp] theorem State.recordThroughput_work : s.recordThroughput.work = s.work := rfl
@[simp] theorem State.recordThroughput_stage : s.recordThroughput.stage = s.stage := rfl
@[simp] theorem State.recordThroughput_argOffset : s.recordThroughput.argOffset = s.argOffset := rfl
@[simp] theorem State.recordThroughput_argNumSamples : s.recordThroughput.argNumSamples = s.argNumSamples := rfl
@[simp] theorem State.recordThroughput_argNumCh : s.recordThroughput.argNumCh = s.argNumCh := rfl
@[simp] theorem State.recordThroughput_argDestCap : s.recordThroughput.argDestCap = s.argDestCap := rfl
@[simp] theorem State.recordThroughput_perfEnable : s.recordThroughput.perfEnable = s.perfEnable := rfl
@[simp] theorem State.recordThroughput_perfHist :
    s.recordThroughput.perfHist = if s.perfEnable then pushThroughput s.perfHist s.throughput else s.perfHist := rfl
@[simp] theorem State.recordThroughput_perfRatio :
    s.recordThroughput.perfRatio = if s.perfEnable then meanThroughput (pushThroughput s.perfHist s.throughput) else s.perfRatio := rfl
@[simp] theorem State.recordThroughput_stream : s.recordThroughput.stream = s.stream := rfl
@[simp] theorem State.recordThroughput_spos : s.recordThroughput.spos = s.spos := rfl
@[simp] theorem State.recordThroughput_streamEnded : s.recordThroughput.streamEnded = s.streamEnded := rfl
@[simp] theorem State.recordThroughput_dst0 : s.recordThroughput.dst0 = s.dst0 := rfl
@[simp] theorem State.recordThroughput_dst1 : s.recordThroughput.dst1 = s.dst1 := rfl
@[simp] theorem State.recordThroughput_phase : s.recordThroughput.phase = s.phase := rfl
@[simp] theorem State.recordThroughput_job : s.recordThroughput.job = s.job := rfl
@[simp] theorem State.recordThroughput_port : s.recordThroughput.port = s.port := rfl
@[simp] theorem State.recordThroughput_portData : s.recordThroughput.portData = s.portData := rfl
@[simp] theorem State.recordThroughput_draws :
    s.recordThroughput.draws = if s.perfEnable then s.draws + 1 else s.draws := rfl

/-! The return of a DECODE (43_loop_control R197). -/

@[simp] theorem State.returnToHost_state : s.returnToHost.state = .idle := rfl
@[simp] theorem State.returnToHost_ready : s.returnToHost.ready = s.ready := rfl
@[simp] theorem State.returnToHost_readIndex : s.returnToHost.readIndex = s.readIndex := rfl
@[simp] theorem State.returnToHost_indexInBlock : s.returnToHost.indexInBlock = s.indexInBlock := rfl
@[simp] theorem State.returnToHost_readOffset : s.returnToHost.readOffset = s.readOffset + s.readIndex := rfl
@[simp] theorem State.returnToHost_reqSamples : s.returnToHost.reqSamples = s.reqSamples := rfl
@[simp] theorem State.returnToHost_numCh : s.returnToHost.numCh = s.numCh := rfl
@[simp] theorem State.returnToHost_destCap : s.returnToHost.destCap = s.destCap := rfl
@[simp] theorem State.returnToHost_chan : s.returnToHost.chan = s.chan := rfl
@[simp] theorem State.returnToHost_numTodo : s.returnToHost.numTodo = s.numTodo := rfl
@[simp] theorem State.returnToHost_hdrInfo : s.returnToHost.hdrInfo = s.hdrInfo := rfl
@[simp] theorem State.returnToHost_hdrNum : s.returnToHost.hdrNum = s.hdrNum := rfl
@[simp] theorem State.returnToHost_status : s.returnToHost.status = s.status := rfl
@[simp] theorem State.returnToHost_produced : s.returnToHost.produced = s.readIndex := rfl
@[simp] theorem State.returnToHost_fault : s.returnToHost.fault = s.fault := rfl
@[simp] theorem State.returnToHost_base : s.returnToHost.base = s.base := rfl
@[simp] theorem State.returnToHost_work : s.returnToHost.work = s.work := rfl
@[simp] theorem State.returnToHost_stage : s.returnToHost.stage = s.stage := rfl
@[simp] theorem State.returnToHost_argOffset : s.returnToHost.argOffset = s.argOffset := rfl
@[simp] theorem State.returnToHost_argNumSamples : s.returnToHost.argNumSamples = s.argNumSamples := rfl
@[simp] theorem State.returnToHost_argNumCh : s.returnToHost.argNumCh = s.argNumCh := rfl
@[simp] theorem State.returnToHost_argDestCap : s.returnToHost.argDestCap = s.argDestCap := rfl
@[simp] theorem State.returnToHost_perfEnable : s.returnToHost.perfEnable = s.perfEnable := rfl
@[simp] theorem State.returnToHost_perfHist : s.returnToHost.perfHist = s.recordThroughput.perfHist := rfl
@[simp] theorem State.returnToHost_perfRatio : s.returnToHost.perfRatio = s.recordThroughput.perfRatio := rfl
@[simp] theorem State.returnToHost_stream : s.returnToHost.stream = s.stream := rfl
@[simp] theorem State.returnToHost_spos : s.returnToHost.spos = s.spos := rfl
@[simp] theorem State.returnToHost_streamEnded : s.returnToHost.streamEnded = s.streamEnded := rfl
@[simp] theorem State.returnToHost_dst0 : s.returnToHost.dst0 = s.dst0 := rfl
@[simp] theorem State.returnToHost_dst1 : s.returnToHost.dst1 = s.dst1 := rfl
@[simp] theorem State.returnToHost_phase : s.returnToHost.phase = .blockTest := rfl
@[simp] theorem State.returnToHost_job : s.returnToHost.job = s.job := rfl
@[simp] theorem State.returnToHost_port : s.returnToHost.port = s.port := rfl
@[simp] theorem State.returnToHost_portData : s.returnToHost.portData = s.portData := rfl
@[simp] theorem State.returnToHost_draws : s.returnToHost.draws = s.recordThroughput.draws := rfl

/-! The two assignments of the abort rule (60_exceptions R250). -/

@[simp] theorem State.setError_state (e : ErrorCode) : (s.setError e).state = s.state := rfl
@[simp] theorem State.setError_ready (e : ErrorCode) : (s.setError e).ready = s.ready := rfl
@[simp] theorem State.setError_readIndex (e : ErrorCode) : (s.setError e).readIndex = s.readIndex := rfl
@[simp] theorem State.setError_indexInBlock (e : ErrorCode) : (s.setError e).indexInBlock = s.indexInBlock := rfl
@[simp] theorem State.setError_readOffset (e : ErrorCode) : (s.setError e).readOffset = s.readOffset := rfl
@[simp] theorem State.setError_reqSamples (e : ErrorCode) : (s.setError e).reqSamples = s.reqSamples := rfl
@[simp] theorem State.setError_numCh (e : ErrorCode) : (s.setError e).numCh = s.numCh := rfl
@[simp] theorem State.setError_destCap (e : ErrorCode) : (s.setError e).destCap = s.destCap := rfl
@[simp] theorem State.setError_chan (e : ErrorCode) : (s.setError e).chan = s.chan := rfl
@[simp] theorem State.setError_numTodo (e : ErrorCode) : (s.setError e).numTodo = s.numTodo := rfl
@[simp] theorem State.setError_hdrInfo (e : ErrorCode) : (s.setError e).hdrInfo = s.hdrInfo := rfl
@[simp] theorem State.setError_hdrNum (e : ErrorCode) : (s.setError e).hdrNum = s.hdrNum := rfl
@[simp] theorem State.setError_status (e : ErrorCode) : (s.setError e).status = e.code := rfl
@[simp] theorem State.setError_produced (e : ErrorCode) : (s.setError e).produced = s.produced := rfl
@[simp] theorem State.setError_fault (e : ErrorCode) :
    (s.setError e).fault = if e.structural = true ∧ s.fault = 0#4 then e.code else s.fault := rfl
@[simp] theorem State.setError_base (e : ErrorCode) : (s.setError e).base = s.base := rfl
@[simp] theorem State.setError_work (e : ErrorCode) : (s.setError e).work = s.work := rfl
@[simp] theorem State.setError_stage (e : ErrorCode) : (s.setError e).stage = s.stage := rfl
@[simp] theorem State.setError_argOffset (e : ErrorCode) : (s.setError e).argOffset = s.argOffset := rfl
@[simp] theorem State.setError_argNumSamples (e : ErrorCode) : (s.setError e).argNumSamples = s.argNumSamples := rfl
@[simp] theorem State.setError_argNumCh (e : ErrorCode) : (s.setError e).argNumCh = s.argNumCh := rfl
@[simp] theorem State.setError_argDestCap (e : ErrorCode) : (s.setError e).argDestCap = s.argDestCap := rfl
@[simp] theorem State.setError_perfEnable (e : ErrorCode) : (s.setError e).perfEnable = s.perfEnable := rfl
@[simp] theorem State.setError_perfHist (e : ErrorCode) : (s.setError e).perfHist = s.perfHist := rfl
@[simp] theorem State.setError_perfRatio (e : ErrorCode) : (s.setError e).perfRatio = s.perfRatio := rfl
@[simp] theorem State.setError_stream (e : ErrorCode) : (s.setError e).stream = s.stream := rfl
@[simp] theorem State.setError_spos (e : ErrorCode) : (s.setError e).spos = s.spos := rfl
@[simp] theorem State.setError_streamEnded (e : ErrorCode) : (s.setError e).streamEnded = s.streamEnded := rfl
@[simp] theorem State.setError_dst0 (e : ErrorCode) : (s.setError e).dst0 = s.dst0 := rfl
@[simp] theorem State.setError_dst1 (e : ErrorCode) : (s.setError e).dst1 = s.dst1 := rfl
@[simp] theorem State.setError_phase (e : ErrorCode) : (s.setError e).phase = s.phase := rfl
@[simp] theorem State.setError_job (e : ErrorCode) : (s.setError e).job = s.job := rfl
@[simp] theorem State.setError_port (e : ErrorCode) : (s.setError e).port = s.port := rfl
@[simp] theorem State.setError_portData (e : ErrorCode) : (s.setError e).portData = s.portData := rfl
@[simp] theorem State.setError_draws (e : ErrorCode) : (s.setError e).draws = s.draws := rfl

/-! The abort rule (60_exceptions R250). -/

@[simp] theorem State.abort_state (e : ErrorCode) : (s.abort e).state = .idle := rfl
@[simp] theorem State.abort_ready (e : ErrorCode) : (s.abort e).ready = s.ready := rfl
@[simp] theorem State.abort_readIndex (e : ErrorCode) : (s.abort e).readIndex = s.finishBlock.readIndex := rfl
@[simp] theorem State.abort_indexInBlock (e : ErrorCode) : (s.abort e).indexInBlock = s.indexInBlock := rfl
@[simp] theorem State.abort_readOffset (e : ErrorCode) :
    (s.abort e).readOffset = s.readOffset + s.finishBlock.readIndex := rfl
@[simp] theorem State.abort_reqSamples (e : ErrorCode) : (s.abort e).reqSamples = s.reqSamples := rfl
@[simp] theorem State.abort_numCh (e : ErrorCode) : (s.abort e).numCh = s.numCh := rfl
@[simp] theorem State.abort_destCap (e : ErrorCode) : (s.abort e).destCap = s.destCap := rfl
@[simp] theorem State.abort_chan (e : ErrorCode) : (s.abort e).chan = s.chan := rfl
@[simp] theorem State.abort_numTodo (e : ErrorCode) : (s.abort e).numTodo = s.numTodo := rfl
@[simp] theorem State.abort_hdrInfo (e : ErrorCode) : (s.abort e).hdrInfo = s.hdrInfo := rfl
@[simp] theorem State.abort_hdrNum (e : ErrorCode) : (s.abort e).hdrNum = s.hdrNum := rfl
@[simp] theorem State.abort_status (e : ErrorCode) : (s.abort e).status = e.code := rfl
@[simp] theorem State.abort_produced (e : ErrorCode) : (s.abort e).produced = s.finishBlock.readIndex := rfl
@[simp] theorem State.abort_fault (e : ErrorCode) :
    (s.abort e).fault = if e.structural = true ∧ s.fault = 0#4 then e.code else s.fault := rfl
@[simp] theorem State.abort_base (e : ErrorCode) : (s.abort e).base = s.base := rfl
@[simp] theorem State.abort_work (e : ErrorCode) : (s.abort e).work = s.work := rfl
@[simp] theorem State.abort_stage (e : ErrorCode) : (s.abort e).stage = s.stage := rfl
@[simp] theorem State.abort_argOffset (e : ErrorCode) : (s.abort e).argOffset = s.argOffset := rfl
@[simp] theorem State.abort_argNumSamples (e : ErrorCode) : (s.abort e).argNumSamples = s.argNumSamples := rfl
@[simp] theorem State.abort_argNumCh (e : ErrorCode) : (s.abort e).argNumCh = s.argNumCh := rfl
@[simp] theorem State.abort_argDestCap (e : ErrorCode) : (s.abort e).argDestCap = s.argDestCap := rfl
@[simp] theorem State.abort_perfEnable (e : ErrorCode) : (s.abort e).perfEnable = s.perfEnable := rfl
@[simp] theorem State.abort_perfHist (e : ErrorCode) : (s.abort e).perfHist = s.recordThroughput.perfHist := rfl
@[simp] theorem State.abort_perfRatio (e : ErrorCode) : (s.abort e).perfRatio = s.recordThroughput.perfRatio := rfl
@[simp] theorem State.abort_stream (e : ErrorCode) : (s.abort e).stream = s.stream := rfl
@[simp] theorem State.abort_spos (e : ErrorCode) : (s.abort e).spos = s.spos := rfl
@[simp] theorem State.abort_streamEnded (e : ErrorCode) : (s.abort e).streamEnded = s.streamEnded := rfl
@[simp] theorem State.abort_dst0 (e : ErrorCode) : (s.abort e).dst0 = s.dst0 := rfl
@[simp] theorem State.abort_dst1 (e : ErrorCode) : (s.abort e).dst1 = s.dst1 := rfl
@[simp] theorem State.abort_phase (e : ErrorCode) : (s.abort e).phase = .blockTest := rfl
@[simp] theorem State.abort_job (e : ErrorCode) : (s.abort e).job = s.job := rfl
@[simp] theorem State.abort_port (e : ErrorCode) : (s.abort e).port = s.port := rfl
@[simp] theorem State.abort_portData (e : ErrorCode) : (s.abort e).portData = s.portData := rfl
@[simp] theorem State.abort_draws (e : ErrorCode) : (s.abort e).draws = s.recordThroughput.draws := rfl

/-! An error at the entry of a command (60_exceptions R251). -/

@[simp] theorem State.refuseEntry_state (e : ErrorCode) : (s.refuseEntry e).state = s.state := rfl
@[simp] theorem State.refuseEntry_ready (e : ErrorCode) : (s.refuseEntry e).ready = s.ready := rfl
@[simp] theorem State.refuseEntry_readIndex (e : ErrorCode) : (s.refuseEntry e).readIndex = s.readIndex := rfl
@[simp] theorem State.refuseEntry_indexInBlock (e : ErrorCode) : (s.refuseEntry e).indexInBlock = s.indexInBlock := rfl
@[simp] theorem State.refuseEntry_readOffset (e : ErrorCode) : (s.refuseEntry e).readOffset = s.readOffset := rfl
@[simp] theorem State.refuseEntry_reqSamples (e : ErrorCode) : (s.refuseEntry e).reqSamples = s.reqSamples := rfl
@[simp] theorem State.refuseEntry_numCh (e : ErrorCode) : (s.refuseEntry e).numCh = s.numCh := rfl
@[simp] theorem State.refuseEntry_destCap (e : ErrorCode) : (s.refuseEntry e).destCap = s.destCap := rfl
@[simp] theorem State.refuseEntry_chan (e : ErrorCode) : (s.refuseEntry e).chan = s.chan := rfl
@[simp] theorem State.refuseEntry_numTodo (e : ErrorCode) : (s.refuseEntry e).numTodo = s.numTodo := rfl
@[simp] theorem State.refuseEntry_hdrInfo (e : ErrorCode) : (s.refuseEntry e).hdrInfo = s.hdrInfo := rfl
@[simp] theorem State.refuseEntry_hdrNum (e : ErrorCode) : (s.refuseEntry e).hdrNum = s.hdrNum := rfl
@[simp] theorem State.refuseEntry_status (e : ErrorCode) : (s.refuseEntry e).status = e.code := rfl
@[simp] theorem State.refuseEntry_produced (e : ErrorCode) : (s.refuseEntry e).produced = 0#Config.cntW := rfl
@[simp] theorem State.refuseEntry_fault (e : ErrorCode) : (s.refuseEntry e).fault = s.fault := rfl
@[simp] theorem State.refuseEntry_base (e : ErrorCode) : (s.refuseEntry e).base = s.base := rfl
@[simp] theorem State.refuseEntry_work (e : ErrorCode) : (s.refuseEntry e).work = s.work := rfl
@[simp] theorem State.refuseEntry_stage (e : ErrorCode) : (s.refuseEntry e).stage = s.stage := rfl
@[simp] theorem State.refuseEntry_argOffset (e : ErrorCode) : (s.refuseEntry e).argOffset = s.argOffset := rfl
@[simp] theorem State.refuseEntry_argNumSamples (e : ErrorCode) : (s.refuseEntry e).argNumSamples = s.argNumSamples := rfl
@[simp] theorem State.refuseEntry_argNumCh (e : ErrorCode) : (s.refuseEntry e).argNumCh = s.argNumCh := rfl
@[simp] theorem State.refuseEntry_argDestCap (e : ErrorCode) : (s.refuseEntry e).argDestCap = s.argDestCap := rfl
@[simp] theorem State.refuseEntry_perfEnable (e : ErrorCode) : (s.refuseEntry e).perfEnable = s.perfEnable := rfl
@[simp] theorem State.refuseEntry_perfHist (e : ErrorCode) : (s.refuseEntry e).perfHist = s.perfHist := rfl
@[simp] theorem State.refuseEntry_perfRatio (e : ErrorCode) : (s.refuseEntry e).perfRatio = s.perfRatio := rfl
@[simp] theorem State.refuseEntry_stream (e : ErrorCode) : (s.refuseEntry e).stream = s.stream := rfl
@[simp] theorem State.refuseEntry_spos (e : ErrorCode) : (s.refuseEntry e).spos = s.spos := rfl
@[simp] theorem State.refuseEntry_streamEnded (e : ErrorCode) : (s.refuseEntry e).streamEnded = s.streamEnded := rfl
@[simp] theorem State.refuseEntry_dst0 (e : ErrorCode) : (s.refuseEntry e).dst0 = s.dst0 := rfl
@[simp] theorem State.refuseEntry_dst1 (e : ErrorCode) : (s.refuseEntry e).dst1 = s.dst1 := rfl
@[simp] theorem State.refuseEntry_phase (e : ErrorCode) : (s.refuseEntry e).phase = s.phase := rfl
@[simp] theorem State.refuseEntry_job (e : ErrorCode) : (s.refuseEntry e).job = s.job := rfl
@[simp] theorem State.refuseEntry_port (e : ErrorCode) : (s.refuseEntry e).port = s.port := rfl
@[simp] theorem State.refuseEntry_portData (e : ErrorCode) : (s.refuseEntry e).portData = s.portData := rfl
@[simp] theorem State.refuseEntry_draws (e : ErrorCode) : (s.refuseEntry e).draws = s.draws := rfl

/-! What SETUP and RESET clear (42_session_commands R172, R173). -/

@[simp] theorem State.clearSession_state : s.clearSession.state = s.state := rfl
@[simp] theorem State.clearSession_ready : s.clearSession.ready = s.ready := rfl
@[simp] theorem State.clearSession_readIndex : s.clearSession.readIndex = 0#Config.cntW := rfl
@[simp] theorem State.clearSession_indexInBlock : s.clearSession.indexInBlock = 0#Config.cntW := rfl
@[simp] theorem State.clearSession_readOffset : s.clearSession.readOffset = 0#Config.cntW := rfl
@[simp] theorem State.clearSession_reqSamples : s.clearSession.reqSamples = 0#Config.cntW := rfl
@[simp] theorem State.clearSession_numCh : s.clearSession.numCh = 0#2 := rfl
@[simp] theorem State.clearSession_destCap : s.clearSession.destCap = 0#Config.cntW := rfl
@[simp] theorem State.clearSession_chan : s.clearSession.chan = 0#1 := rfl
@[simp] theorem State.clearSession_numTodo : s.clearSession.numTodo = 0#Config.cntW := rfl
@[simp] theorem State.clearSession_hdrInfo : s.clearSession.hdrInfo = s.hdrInfo := rfl
@[simp] theorem State.clearSession_hdrNum : s.clearSession.hdrNum = s.hdrNum := rfl
@[simp] theorem State.clearSession_status : s.clearSession.status = 0#4 := rfl
@[simp] theorem State.clearSession_produced : s.clearSession.produced = 0#Config.cntW := rfl
@[simp] theorem State.clearSession_fault : s.clearSession.fault = 0#4 := rfl
@[simp] theorem State.clearSession_base : s.clearSession.base = s.base := rfl
@[simp] theorem State.clearSession_work : s.clearSession.work = s.work := rfl
@[simp] theorem State.clearSession_stage : s.clearSession.stage = s.stage := rfl
@[simp] theorem State.clearSession_argOffset : s.clearSession.argOffset = s.argOffset := rfl
@[simp] theorem State.clearSession_argNumSamples : s.clearSession.argNumSamples = s.argNumSamples := rfl
@[simp] theorem State.clearSession_argNumCh : s.clearSession.argNumCh = s.argNumCh := rfl
@[simp] theorem State.clearSession_argDestCap : s.clearSession.argDestCap = s.argDestCap := rfl
@[simp] theorem State.clearSession_perfEnable : s.clearSession.perfEnable = s.perfEnable := rfl
@[simp] theorem State.clearSession_perfHist : s.clearSession.perfHist = [] := rfl
@[simp] theorem State.clearSession_perfRatio : s.clearSession.perfRatio = 0#32 := rfl
@[simp] theorem State.clearSession_stream : s.clearSession.stream = s.stream := rfl
@[simp] theorem State.clearSession_spos : s.clearSession.spos = s.spos := rfl
@[simp] theorem State.clearSession_streamEnded : s.clearSession.streamEnded = s.streamEnded := rfl
@[simp] theorem State.clearSession_dst0 : s.clearSession.dst0 = s.dst0 := rfl
@[simp] theorem State.clearSession_dst1 : s.clearSession.dst1 = s.dst1 := rfl
@[simp] theorem State.clearSession_phase : s.clearSession.phase = s.phase := rfl
@[simp] theorem State.clearSession_job : s.clearSession.job = s.job := rfl
@[simp] theorem State.clearSession_port : s.clearSession.port = s.port := rfl
@[simp] theorem State.clearSession_portData : s.clearSession.portData = s.portData := rfl
@[simp] theorem State.clearSession_draws : s.clearSession.draws = s.draws := rfl

/-! The allocation of the buffers (42_session_commands R172). -/

@[simp] theorem State.allocate_state : s.allocate.state = s.state := rfl
@[simp] theorem State.allocate_ready : s.allocate.ready = true := rfl
@[simp] theorem State.allocate_readIndex : s.allocate.readIndex = s.readIndex := rfl
@[simp] theorem State.allocate_indexInBlock : s.allocate.indexInBlock = s.indexInBlock := rfl
@[simp] theorem State.allocate_readOffset : s.allocate.readOffset = s.readOffset := rfl
@[simp] theorem State.allocate_reqSamples : s.allocate.reqSamples = s.reqSamples := rfl
@[simp] theorem State.allocate_numCh : s.allocate.numCh = s.numCh := rfl
@[simp] theorem State.allocate_destCap : s.allocate.destCap = s.destCap := rfl
@[simp] theorem State.allocate_chan : s.allocate.chan = s.chan := rfl
@[simp] theorem State.allocate_numTodo : s.allocate.numTodo = s.numTodo := rfl
@[simp] theorem State.allocate_hdrInfo : s.allocate.hdrInfo = s.hdrInfo := rfl
@[simp] theorem State.allocate_hdrNum : s.allocate.hdrNum = s.hdrNum := rfl
@[simp] theorem State.allocate_status : s.allocate.status = s.status := rfl
@[simp] theorem State.allocate_produced : s.allocate.produced = s.produced := rfl
@[simp] theorem State.allocate_fault : s.allocate.fault = s.fault := rfl
@[simp] theorem State.allocate_base : s.allocate.base = (List.replicate Config.block 0#16 : List Sample) := rfl
@[simp] theorem State.allocate_work : s.allocate.work = (List.replicate Config.block 0#16 : List Sample) := rfl
@[simp] theorem State.allocate_stage : s.allocate.stage = freeStage s.draws 0 Config.stageBytes := rfl
@[simp] theorem State.allocate_argOffset : s.allocate.argOffset = s.argOffset := rfl
@[simp] theorem State.allocate_argNumSamples : s.allocate.argNumSamples = s.argNumSamples := rfl
@[simp] theorem State.allocate_argNumCh : s.allocate.argNumCh = s.argNumCh := rfl
@[simp] theorem State.allocate_argDestCap : s.allocate.argDestCap = s.argDestCap := rfl
@[simp] theorem State.allocate_perfEnable : s.allocate.perfEnable = s.perfEnable := rfl
@[simp] theorem State.allocate_perfHist : s.allocate.perfHist = s.perfHist := rfl
@[simp] theorem State.allocate_perfRatio : s.allocate.perfRatio = s.perfRatio := rfl
@[simp] theorem State.allocate_stream : s.allocate.stream = s.stream := rfl
@[simp] theorem State.allocate_spos : s.allocate.spos = s.spos := rfl
@[simp] theorem State.allocate_streamEnded : s.allocate.streamEnded = s.streamEnded := rfl
@[simp] theorem State.allocate_dst0 : s.allocate.dst0 = s.dst0 := rfl
@[simp] theorem State.allocate_dst1 : s.allocate.dst1 = s.dst1 := rfl
@[simp] theorem State.allocate_phase : s.allocate.phase = s.phase := rfl
@[simp] theorem State.allocate_job : s.allocate.job = s.job := rfl
@[simp] theorem State.allocate_port : s.allocate.port = s.port := rfl
@[simp] theorem State.allocate_portData : s.allocate.portData = s.portData := rfl
@[simp] theorem State.allocate_draws : s.allocate.draws = s.draws + 1 := rfl

/-! The release of the buffers (42_session_commands R173). -/

@[simp] theorem State.release_state : s.release.state = s.state := rfl
@[simp] theorem State.release_ready : s.release.ready = false := rfl
@[simp] theorem State.release_readIndex : s.release.readIndex = s.readIndex := rfl
@[simp] theorem State.release_indexInBlock : s.release.indexInBlock = s.indexInBlock := rfl
@[simp] theorem State.release_readOffset : s.release.readOffset = s.readOffset := rfl
@[simp] theorem State.release_reqSamples : s.release.reqSamples = s.reqSamples := rfl
@[simp] theorem State.release_numCh : s.release.numCh = s.numCh := rfl
@[simp] theorem State.release_destCap : s.release.destCap = s.destCap := rfl
@[simp] theorem State.release_chan : s.release.chan = s.chan := rfl
@[simp] theorem State.release_numTodo : s.release.numTodo = s.numTodo := rfl
@[simp] theorem State.release_hdrInfo : s.release.hdrInfo = s.hdrInfo := rfl
@[simp] theorem State.release_hdrNum : s.release.hdrNum = s.hdrNum := rfl
@[simp] theorem State.release_status : s.release.status = s.status := rfl
@[simp] theorem State.release_produced : s.release.produced = s.produced := rfl
@[simp] theorem State.release_fault : s.release.fault = s.fault := rfl
@[simp] theorem State.release_base : s.release.base = [] := rfl
@[simp] theorem State.release_work : s.release.work = [] := rfl
@[simp] theorem State.release_stage : s.release.stage = [] := rfl
@[simp] theorem State.release_argOffset : s.release.argOffset = s.argOffset := rfl
@[simp] theorem State.release_argNumSamples : s.release.argNumSamples = s.argNumSamples := rfl
@[simp] theorem State.release_argNumCh : s.release.argNumCh = s.argNumCh := rfl
@[simp] theorem State.release_argDestCap : s.release.argDestCap = s.argDestCap := rfl
@[simp] theorem State.release_perfEnable : s.release.perfEnable = s.perfEnable := rfl
@[simp] theorem State.release_perfHist : s.release.perfHist = s.perfHist := rfl
@[simp] theorem State.release_perfRatio : s.release.perfRatio = s.perfRatio := rfl
@[simp] theorem State.release_stream : s.release.stream = s.stream := rfl
@[simp] theorem State.release_spos : s.release.spos = s.spos := rfl
@[simp] theorem State.release_streamEnded : s.release.streamEnded = s.streamEnded := rfl
@[simp] theorem State.release_dst0 : s.release.dst0 = s.dst0 := rfl
@[simp] theorem State.release_dst1 : s.release.dst1 = s.dst1 := rfl
@[simp] theorem State.release_phase : s.release.phase = s.phase := rfl
@[simp] theorem State.release_job : s.release.job = s.job := rfl
@[simp] theorem State.release_port : s.release.port = s.port := rfl
@[simp] theorem State.release_portData : s.release.portData = s.portData := rfl
@[simp] theorem State.release_draws : s.release.draws = s.draws := rfl

/-! The accepted entry of a DECODE (42_session_commands R174 step 8). -/

@[simp] theorem State.startDecode_state : s.startDecode.state = .active := rfl
@[simp] theorem State.startDecode_ready : s.startDecode.ready = s.ready := rfl
@[simp] theorem State.startDecode_readIndex : s.startDecode.readIndex = 0#Config.cntW := rfl
@[simp] theorem State.startDecode_indexInBlock : s.startDecode.indexInBlock = 0#Config.cntW := rfl
@[simp] theorem State.startDecode_readOffset : s.startDecode.readOffset = s.readOffset := rfl
@[simp] theorem State.startDecode_reqSamples : s.startDecode.reqSamples = s.resolvedRequest := rfl
@[simp] theorem State.startDecode_numCh : s.startDecode.numCh = s.argNumCh := rfl
@[simp] theorem State.startDecode_destCap : s.startDecode.destCap = s.argDestCap := rfl
@[simp] theorem State.startDecode_chan : s.startDecode.chan = 0#1 := rfl
@[simp] theorem State.startDecode_numTodo : s.startDecode.numTodo = s.numTodo := rfl
@[simp] theorem State.startDecode_hdrInfo : s.startDecode.hdrInfo = s.hdrInfo := rfl
@[simp] theorem State.startDecode_hdrNum : s.startDecode.hdrNum = s.hdrNum := rfl
@[simp] theorem State.startDecode_status : s.startDecode.status = 0#4 := rfl
@[simp] theorem State.startDecode_produced : s.startDecode.produced = s.produced := rfl
@[simp] theorem State.startDecode_fault : s.startDecode.fault = s.fault := rfl
@[simp] theorem State.startDecode_base : s.startDecode.base = s.base := rfl
@[simp] theorem State.startDecode_work : s.startDecode.work = s.work := rfl
@[simp] theorem State.startDecode_stage : s.startDecode.stage = s.stage := rfl
@[simp] theorem State.startDecode_argOffset : s.startDecode.argOffset = s.argOffset := rfl
@[simp] theorem State.startDecode_argNumSamples : s.startDecode.argNumSamples = s.argNumSamples := rfl
@[simp] theorem State.startDecode_argNumCh : s.startDecode.argNumCh = s.argNumCh := rfl
@[simp] theorem State.startDecode_argDestCap : s.startDecode.argDestCap = s.argDestCap := rfl
@[simp] theorem State.startDecode_perfEnable : s.startDecode.perfEnable = s.perfEnable := rfl
@[simp] theorem State.startDecode_perfHist : s.startDecode.perfHist = s.perfHist := rfl
@[simp] theorem State.startDecode_perfRatio : s.startDecode.perfRatio = s.perfRatio := rfl
@[simp] theorem State.startDecode_stream : s.startDecode.stream = s.stream := rfl
@[simp] theorem State.startDecode_spos : s.startDecode.spos = s.spos := rfl
@[simp] theorem State.startDecode_streamEnded : s.startDecode.streamEnded = s.streamEnded := rfl
@[simp] theorem State.startDecode_dst0 : s.startDecode.dst0 = s.dst0 := rfl
@[simp] theorem State.startDecode_dst1 : s.startDecode.dst1 = s.dst1 := rfl
@[simp] theorem State.startDecode_phase : s.startDecode.phase = .blockTest := rfl
@[simp] theorem State.startDecode_job : s.startDecode.job = s.job := rfl
@[simp] theorem State.startDecode_port : s.startDecode.port = s.port := rfl
@[simp] theorem State.startDecode_portData : s.startDecode.portData = s.portData := rfl
@[simp] theorem State.startDecode_draws : s.startDecode.draws = s.draws := rfl

/-! The end of a block and the channel alternation (43_loop_control R190, R195). -/

@[simp] theorem State.endBlock_state : s.endBlock.state = s.state := rfl
@[simp] theorem State.endBlock_ready : s.endBlock.ready = s.ready := rfl
@[simp] theorem State.endBlock_readIndex : s.endBlock.readIndex = s.finishBlock.readIndex := rfl
@[simp] theorem State.endBlock_indexInBlock : s.endBlock.indexInBlock = s.indexInBlock := rfl
@[simp] theorem State.endBlock_readOffset : s.endBlock.readOffset = s.readOffset := rfl
@[simp] theorem State.endBlock_reqSamples : s.endBlock.reqSamples = s.reqSamples := rfl
@[simp] theorem State.endBlock_numCh : s.endBlock.numCh = s.numCh := rfl
@[simp] theorem State.endBlock_destCap : s.endBlock.destCap = s.destCap := rfl
@[simp] theorem State.endBlock_chan : s.endBlock.chan = if s.numCh = 2#2 then 1#1 - s.chan else s.chan := rfl
@[simp] theorem State.endBlock_numTodo : s.endBlock.numTodo = s.numTodo := rfl
@[simp] theorem State.endBlock_hdrInfo : s.endBlock.hdrInfo = s.hdrInfo := rfl
@[simp] theorem State.endBlock_hdrNum : s.endBlock.hdrNum = s.hdrNum := rfl
@[simp] theorem State.endBlock_status : s.endBlock.status = s.status := rfl
@[simp] theorem State.endBlock_produced : s.endBlock.produced = s.produced := rfl
@[simp] theorem State.endBlock_fault : s.endBlock.fault = s.fault := rfl
@[simp] theorem State.endBlock_base : s.endBlock.base = s.base := rfl
@[simp] theorem State.endBlock_work : s.endBlock.work = s.work := rfl
@[simp] theorem State.endBlock_stage : s.endBlock.stage = s.stage := rfl
@[simp] theorem State.endBlock_argOffset : s.endBlock.argOffset = s.argOffset := rfl
@[simp] theorem State.endBlock_argNumSamples : s.endBlock.argNumSamples = s.argNumSamples := rfl
@[simp] theorem State.endBlock_argNumCh : s.endBlock.argNumCh = s.argNumCh := rfl
@[simp] theorem State.endBlock_argDestCap : s.endBlock.argDestCap = s.argDestCap := rfl
@[simp] theorem State.endBlock_perfEnable : s.endBlock.perfEnable = s.perfEnable := rfl
@[simp] theorem State.endBlock_perfHist : s.endBlock.perfHist = s.perfHist := rfl
@[simp] theorem State.endBlock_perfRatio : s.endBlock.perfRatio = s.perfRatio := rfl
@[simp] theorem State.endBlock_stream : s.endBlock.stream = s.stream := rfl
@[simp] theorem State.endBlock_spos : s.endBlock.spos = s.spos := rfl
@[simp] theorem State.endBlock_streamEnded : s.endBlock.streamEnded = s.streamEnded := rfl
@[simp] theorem State.endBlock_dst0 : s.endBlock.dst0 = s.dst0 := rfl
@[simp] theorem State.endBlock_dst1 : s.endBlock.dst1 = s.dst1 := rfl
@[simp] theorem State.endBlock_phase : s.endBlock.phase = .blockTest := rfl
@[simp] theorem State.endBlock_job : s.endBlock.job = s.job := rfl
@[simp] theorem State.endBlock_port : s.endBlock.port = s.port := rfl
@[simp] theorem State.endBlock_portData : s.endBlock.portData = s.portData := rfl
@[simp] theorem State.endBlock_draws : s.endBlock.draws = s.draws := rfl

end Sys2Proof.Machine
end

