-- ==== Sys2Proof/Laws/Ops.lean ====
section
/-!
SUPPORT. What each shared operation can do, said once: a proof cites these instead of unfolding the operation.
-/

namespace Sys2Proof.Machine

/-! ### Sequencing -/

@[simp] theorem andThen_next (s : State) (f : State → Result) : andThen (.next s) f = f s := rfl
@[simp] theorem andThen_fault (e : Fault) (f : State → Result) : andThen (.fault e) f = .fault e := rfl
@[simp] theorem andThen_refused (e : Refusal) (f : State → Result) : andThen (.refused e) f = .refused e := rfl

/-- A sequence answers a next state only where both parts do. -/
theorem andThen_eq_next {r : Result} {f : State → Result} {t : State} :
    andThen r f = .next t ↔ ∃ s, r = .next s ∧ f s = .next t := by
  cases r <;> simp [andThen]

/-! ### Cursors -/

/-- At the width this hardware takes (00_scope R7), a cursor and its host register hold the same pattern. -/
@[simp] theorem cursorWord_eq (c : Cursor) : cursorWord c = c := BitVec.setWidth_eq c

/-- At the width this hardware takes (00_scope R7), an argument is the word that was written. -/
@[simp] theorem wordCursor_eq (w : Word) : wordCursor w = w := BitVec.setWidth_eq w

/-- A cursor counts below `2 ^ 32`. -/
theorem cursor_toNat_lt (c : Cursor) : c.toNat < 2 ^ 32 := c.isLt

/-- Cursors add modulo `2 ^ 32` (00_scope R7, D24). -/
theorem cursor_toNat_add (c d : Cursor) : (c + d).toNat = (c.toNat + d.toNat) % 2 ^ 32 := BitVec.toNat_add c d

/-- The cursor of a number. -/
theorem cursor_toNat_ofNat (n : Nat) : (BitVec.ofNat Config.cntW n).toNat = n % 2 ^ 32 := BitVec.toNat_ofNat n Config.cntW

/-! ### The stream -/

theorem hasBytes_iff (n : Nat) (l : List Byte) : hasBytes n l = true ↔ n ≤ l.length := by
  cases n with
  | zero => simp [hasBytes]
  | succ n => simp [hasBytes]

/-- What a `StreamRead` can answer (20_memory R63, R64). -/
theorem State.streamRead_cases (n : Nat) (s : State) :
    (n ≤ s.stream.length ∧ s.streamRead n = .got (s.stream.take n) (s.consume n)) ∨
    (s.stream.length < n ∧ s.streamEnded = true ∧ s.streamRead n = .short (s.consume s.stream.length)) ∨
    (s.stream.length < n ∧ s.streamEnded = false ∧ s.streamRead n = .waiting) := by
  unfold State.streamRead
  by_cases h : n ≤ s.stream.length
  · exact .inl ⟨h, by rw [if_pos ((hasBytes_iff _ _).2 h)]⟩
  · have h' : ¬ hasBytes n s.stream = true := fun hb => h ((hasBytes_iff _ _).1 hb)
    cases he : s.streamEnded
    · exact .inr (.inr ⟨by omega, rfl, by simp [h']⟩)
    · exact .inr (.inl ⟨by omega, rfl, by simp [h']⟩)

/-- What `ReadCycleHeader` can answer (40_cycle_header R120). -/
theorem State.readCycleHeader_cases (s : State) :
    (∃ b0 b1 b2 rest, s.stream = b0 :: b1 :: b2 :: rest ∧
      s.readCycleHeader = .got [b0, b1, b2] ((s.consume 3).latchHeader b0 (numByteOrder b1 b2))) ∨
    (s.stream.length < 3 ∧ s.streamEnded = true ∧ s.readCycleHeader = .short (s.consume s.stream.length)) ∨
    (s.stream.length < 3 ∧ s.streamEnded = false ∧ s.readCycleHeader = .waiting) := by
  unfold State.readCycleHeader
  rcases s.streamRead_cases Config.hdrBytes with ⟨h, e⟩ | ⟨h, he, e⟩ | ⟨h, he, e⟩
  · left
    match hs : s.stream, h with
    | b0 :: b1 :: b2 :: rest, _ => exact ⟨b0, b1, b2, rest, rfl, by rw [e, hs]; rfl⟩
  · exact .inr (.inl ⟨h, he, by rw [e]⟩)
  · exact .inr (.inr ⟨h, he, by rw [e]⟩)

/-! ### The unpackers -/

/-- What an unpacker can do (41_bitrate_unpack R142). -/
theorem State.unpack_eq_next {r : Nat} {s t : State} :
    s.unpack r = .next t ↔ s.ready = true ∧
      ((s.job.sub = .template ∧ t = s.setBase (s.unpacked r)) ∨
       (s.job.sub ≠ .template ∧ t = s.setWork (s.unpacked r))) := by
  unfold State.unpack
  by_cases hr : s.ready = true
  · rw [if_pos hr]
    cases h : s.job.sub <;> simp [hr] <;> exact eq_comm
  · simp [hr]

@[simp] theorem State.unpacked_length (r : Nat) (s : State) : (s.unpacked r).length = s.job.count := by
  simp [State.unpacked]

/-- The unpacker selected for a legal rate is the one of that width; an illegal rate is an error (41_bitrate_unpack R140,
60_exceptions R243). -/
theorem selectForBitRate_eq (rate : BitVec 5) (s : State) :
    selectForBitRate rate s = if rate.toNat ≤ Config.maxRate then s.unpack rate.toNat else .next (s.abort .bitRate) := by
  have h : rate.toNat < 32 := rate.isLt
  obtain ⟨r, rfl⟩ : ∃ r : Fin 32, rate = BitVec.ofFin r := ⟨rate.toFin, rfl⟩
  fin_cases r <;> rfl

/-- The step's dispatch of a rate field is the selection of the cycles. -/
theorem exec_decodeRate (rate : BitVec 5) (s : State) : exec (decodeRate rate) s = selectForBitRate rate s := by
  obtain ⟨r, rfl⟩ : ∃ r : Fin 32, rate = BitVec.ofFin r := ⟨rate.toFin, rfl⟩
  fin_cases r <;> rfl

/-- The selection of a legal rate. -/
theorem selectForBitRate_of_legal {rate : BitVec 5} (h : rate.toNat ≤ Config.maxRate) (s : State) :
    selectForBitRate rate s = s.unpack rate.toNat := by
  rw [selectForBitRate_eq, if_pos h]

/-! ### Conversion and writing -/

/-- What the write of a cycle's samples can do (44_reconstruct R211, 20_memory R66, R67). -/
theorem State.convertRun_eq_next {n : Nat} {samples : List Sample} {s t : State} :
    s.convertRun n samples = .next t ↔ s.dstRoom n = true ∧ t = { s with
      dst0 := if s.chan = 0#1 then s.dst0.writeRun s.writePos (samples.map i16ToF32) else s.dst0
      dst1 := if s.chan = 0#1 then s.dst1 else s.dst1.writeRun s.writePos (samples.map i16ToF32)
      indexInBlock := s.indexInBlock + BitVec.ofNat 32 n
      phase := .cycle } := by
  unfold State.convertRun
  by_cases h : s.dstRoom n = true
  · rw [if_pos h, Host.Outcome.next.injEq]
    exact ⟨fun e => ⟨h, e.symm⟩, fun e => e.2.symm⟩
  · simp [h]

/-- The write of a cycle's samples stays inside the destination exactly where it completes. -/
theorem State.dstRoom_iff (n : Nat) (s : State) :
    s.dstRoom n = true ↔ s.chan.toNat < s.numCh.toNat ∧ s.writePos + n ≤ s.destCap.toNat := by
  simp [State.dstRoom]

/-- Reading the destination after the write of a cycle's samples (20_memory R67). -/
theorem State.dstRead_convertRun {n : Nat} {samples : List Sample} {s t : State} (h : s.convertRun n samples = .next t)
    (c : BitVec 1) (i : Nat) :
    t.dstRead c i =
      if c = s.chan ∧ s.writePos ≤ i ∧ i < s.writePos + samples.length then
        (samples.map i16ToF32)[i - s.writePos]?
      else s.dstRead c i := by
  obtain ⟨-, rfl⟩ := State.convertRun_eq_next.1 h
  have hc : ∀ x : BitVec 1, x = 0 ∨ x = 1 := by decide
  rcases hc c with rfl | rfl <;> rcases hc s.chan with h | h <;>
    simp [State.dstRead, h, DstMem.read_writeRun]

/-! ### FetchUnpack -/

/-- What a FetchUnpack of a legal rate can answer (44_reconstruct R210): it waits, it aborts on a short read, or the staged
bytes are unpacked and the cycle goes on. -/
theorem State.fetchUnpack_cases {unpacker k : State → Result} {s : State} (h : s.job.rate.toNat ≤ Config.maxRate) :
    let nb := byteAmount s.job.rate.toNat s.job.count
    (nb ≤ s.stream.length ∧
      s.fetchUnpack unpacker k = andThen (unpacker ((s.consume nb).setStage (s.stream.take nb))) k) ∨
    (s.stream.length < nb ∧ s.streamEnded = true ∧
      s.fetchUnpack unpacker k = .next ((s.consume s.stream.length).abort .streamExhausted)) ∨
    (s.stream.length < nb ∧ s.streamEnded = false ∧ s.fetchUnpack unpacker k = .next s) := by
  intro nb
  unfold State.fetchUnpack
  rw [if_neg (by omega)]
  rcases s.streamRead_cases nb with ⟨h1, e⟩ | ⟨h1, he, e⟩ | ⟨h1, he, e⟩
  · exact .inl ⟨h1, by rw [e]⟩
  · exact .inr (.inl ⟨h1, he, by rw [e]⟩)
  · exact .inr (.inr ⟨h1, he, by rw [e]⟩)

/-- A FetchUnpack whose payload stands at the stream position (44_reconstruct R210). -/
theorem State.fetchUnpack_of_payload {unpacker k : State → Result} {s : State} {payload rest : List Byte}
    (h : s.job.rate.toNat ≤ Config.maxRate) (hs : s.stream = payload ++ rest)
    (hl : payload.length = byteAmount s.job.rate.toNat s.job.count) :
    s.fetchUnpack unpacker k = andThen (unpacker ((s.consume payload.length).setStage payload)) k := by
  rcases State.fetchUnpack_cases (unpacker := unpacker) (k := k) h with ⟨-, e⟩ | ⟨hlt, -, -⟩ | ⟨hlt, -, -⟩
  · rw [e, ← hl, hs, List.take_left]
  · rw [hs, List.length_append] at hlt; omega
  · rw [hs, List.length_append] at hlt; omega

/-- What the unpacker of the run in progress leaves once its payload is staged (41_bitrate_unpack R142). -/
theorem State.unpacked_setStage {r : Nat} {payload : List Byte} {s : State}
    (hl : payload.length = byteAmount r s.job.count) :
    (s.setStage payload).unpacked r = unpackRun r s.job.count payload :=
  unpackRun_append hl.ge

/-! ### Cycles -/

/-- A header that is rejected aborts the command (43_loop_control R194). -/
theorem State.runCycle_of_error {sub : SubStream} {rateFull rateErr : BitVec 5} {count : Option Nat} {s : State}
    {e : ErrorCode} (h : State.headerError rateFull rateErr count s = some e) :
    s.runCycle sub rateFull rateErr count = .next (s.abort e) := by
  unfold State.runCycle; rw [h]

/-- A header that passes validation starts the cycle's first FetchUnpack (43_loop_control R194). -/
theorem State.runCycle_of_legal {sub : SubStream} {rateFull rateErr : BitVec 5} {n : Nat} {s : State}
    (h : State.headerError rateFull rateErr (some n) s = none) :
    s.runCycle sub rateFull rateErr (some n) =
      (s.startJob ⟨sub, rateFull, rateErr, n⟩).fetchUnpack (selectForBitRate rateFull) State.completeSub := by
  unfold State.runCycle; rw [h]; rfl

/-- A header that passes validation: legal rates, a legal count, and room in the quota. -/
theorem State.headerError_eq_none {rateFull rateErr : BitVec 5} {count : Option Nat} {s : State} :
    s.headerError rateFull rateErr count = none ↔
      rateFull.toNat ≤ Config.maxRate ∧ rateErr.toNat ≤ Config.maxRate ∧
        ∃ n, count = some n ∧ s.indexInBlock.toNat + n ≤ s.numTodo.toNat := by
  unfold State.headerError
  cases count with
  | none => split <;> (try split) <;> simp
  | some n =>
    by_cases h1 : Config.maxRate < rateFull.toNat
    · simp [h1]
    · by_cases h2 : Config.maxRate < rateErr.toNat
      · simp [h1, h2]
      · by_cases h3 : s.numTodo.toNat < s.indexInBlock.toNat + n
        · simp [h1, h2, h3]
        · simp [h1, h2, h3]; omega

/-- A header that is rejected is rejected with a structural error (43_loop_control R194). -/
theorem State.headerError_structural {rateFull rateErr : BitVec 5} {count : Option Nat} {s : State} {e : ErrorCode}
    (h : s.headerError rateFull rateErr count = some e) : e.structural = true := by
  unfold State.headerError at h
  split at h
  · cases h; rfl
  · split at h
    · cases h; rfl
    · split at h
      · cases h; rfl
      · split at h
        · cases h; rfl
        · cases h

/-- The legal sample counts (43_loop_control R194 step 4). -/
theorem literalCount_eq_some {n : BitVec 16} {c : Nat} :
    literalCount n = some c ↔ 1 ≤ n.toNat ∧ n.toNat ≤ Config.block ∧ c = n.toNat := by
  unfold literalCount
  split
  · simp; omega
  · simp; omega

/-- The legal sample counts of a diff header (43_loop_control R194 step 4). -/
theorem log2Count_eq_some {k : BitVec 8} {c : Nat} :
    log2Count k = some c ↔ k.toNat ≤ Config.maxLog2 ∧ c = 2 ^ k.toNat := by
  unfold log2Count
  split
  · simp; omega
  · simp [Nat.shiftLeft_eq]; omega

/-- The end of a template cycle (44_reconstruct R212). -/
theorem State.completeSub_template {s : State} (h : s.job.sub = .template) : s.completeSub = s.convertWrite s.job.n := by
  unfold State.completeSub; rw [h]; rfl

/-- The end of a delta cycle (44_reconstruct R213): the sums are the new baseline, and they are converted. -/
theorem State.completeSub_delta {s : State} (h : s.job.sub = .delta) :
    s.completeSub = (s.setBase (addRun (s.base.take s.job.n) (s.work.take s.job.n))).convertWrite s.job.n := by
  unfold State.completeSub; rw [h]; rfl

/-- The anchors of a diff cycle, distributed (44_reconstruct R216): the end of the cycle at error rate 0, else the error
sub-stream follows. -/
theorem State.completeSub_anchors {s : State} (h : s.job.sub = .anchors) :
    s.completeSub =
      if s.job.rateErr = 0#5 then
        (s.setBase (holdAnchors (s.work.take (numAnchors s.job.n)) s.job.n)).convertWrite s.job.n
      else (s.setBase (holdAnchors (s.work.take (numAnchors s.job.n)) s.job.n)).startError := by
  unfold State.completeSub; rw [h]; rfl

/-- The end of a diff cycle with an error sub-stream (44_reconstruct R216). -/
theorem State.completeSub_error {s : State} (h : s.job.sub = .error) :
    s.completeSub = (s.setBase (addRun (s.base.take s.job.n) (s.work.take s.job.n))).convertWrite s.job.n := by
  unfold State.completeSub; rw [h]; rfl

/-- The samples a cycle has put into `base` are the ones it converts (44_reconstruct R211). -/
theorem State.convertWrite_setBase (samples : List Sample) (s : State) :
    (s.setBase samples).convertWrite samples.length = (s.setBase samples).convertRun samples.length samples := by
  unfold State.convertWrite State.setBase; simp only [overwrite_take]

/-! ### Commands -/

/-- The entry checks of DECODE pass exactly where every one of the rule's seven steps does (42_session_commands R174). -/
theorem State.entryError_eq_none {s : State} :
    s.entryError = none ↔
      s.fault = 0#4 ∧ s.ready = true ∧ (s.argNumCh = 1#2 ∨ s.argNumCh = 2#2) ∧ s.argDestCap.toNat < Config.destCapLimit ∧
        s.resolvedRequest.toNat ≤ s.argDestCap.toNat ∧ s.argOffset = s.readOffset := by
  unfold State.entryError
  by_cases h1 : s.fault = 0#4
  · by_cases h2 : s.ready = true
    · by_cases h3 : s.argNumCh = 1#2 ∨ s.argNumCh = 2#2
      · by_cases h4 : Config.destCapLimit ≤ s.argDestCap.toNat
        · simp [h1, h2, h3, h4]
        · by_cases h5 : s.argDestCap.toNat < s.resolvedRequest.toNat
          · simp [h1, h2, h3, h4, h5]
          · by_cases h6 : s.argOffset = s.readOffset <;> simp [h1, h2, h3, h4, h5, h6]
            omega
      · simp [h1, h2, h3]
    · simp [h1, h2]
  · simp [h1]

end Sys2Proof.Machine
end

