-- ==== Sys2Proof/Laws/PerInstr.lean ====
section
/-!
SUPPORT. The statement about every instruction, one lemma per constructor: its encoding is a word of its own row of
spec/opcode_table.json.
-/

namespace Sys2Proof.Laws.TableRow

/-- The bits a row of the opcode table fixes: its mask and its match, written out from the table. -/
def row : Instr → Nat × Nat
  | .template _ _ => (0xE0, 0x20)
  | .delta _ _ => (0xE0, 0x00)
  | .diff1 _ _ _ => (0xC0, 0x40)
  | .diff2 _ _ _ => (0xC0, 0x80)
  | .diff3 _ _ _ => (0xC0, 0xC0)
  | .unpack0 => (0x1F, 0x00)
  | .unpack1 => (0x1F, 0x01)
  | .unpack2 => (0x1F, 0x02)
  | .unpack3 => (0x1F, 0x03)
  | .unpack4 => (0x1F, 0x04)
  | .unpack5 => (0x1F, 0x05)
  | .unpack6 => (0x1F, 0x06)
  | .unpack7 => (0x1F, 0x07)
  | .unpack8 => (0x1F, 0x08)
  | .unpack9 => (0x1F, 0x09)
  | .unpack10 => (0x1F, 0x0A)
  | .unpack11 => (0x1F, 0x0B)
  | .unpack12 => (0x1F, 0x0C)
  | .unpack13 => (0x1F, 0x0D)
  | .unpack14 => (0x1F, 0x0E)
  | .unpack15 => (0x1F, 0x0F)
  | .unpack16 => (0x1F, 0x10)
  | .unpackIll17 => (0x1F, 0x11)
  | .unpackIll18_19 _ => (0x1E, 0x12)
  | .unpackIll20_23 _ => (0x1C, 0x14)
  | .unpackIll24_31 _ => (0x18, 0x18)
  | .reset => (0x3, 0x0)
  | .setup => (0x3, 0x1)
  | .decode => (0x3, 0x2)
  | .cmdReserved => (0x3, 0x3)

/-- The number of the bytes of a word, bit 0 the least significant bit of the first byte. -/
def word : List Byte → Nat
  | [] => 0
  | b :: rest => b.toNat + 256 * word rest

/-- The encoding is a word of the instruction's row: of the row's length, and with the bits the row fixes. -/
def Statement (i : Instr) : Prop :=
  (encode i).length = (if i.format = .hdr then Config.hdrBytes else 1) ∧ word (encode i) &&& (row i).1 = (row i).2

/-- The bits of a word below bit 8 are those of its first byte. -/
theorem word_and {b : Byte} {rest : List Byte} {m : Nat} (hm : m < 256) : word (b :: rest) &&& m = b.toNat &&& m := by
  apply Nat.eq_of_testBit_eq
  intro t
  rw [Nat.testBit_and, Nat.testBit_and]
  by_cases h : t < 8
  · congr 1
    rw [word, show b.toNat + 256 * word rest = 2 ^ 8 * word rest + b.toNat by omega,
      Nat.testBit_two_pow_mul_add _ b.isLt, if_pos h]
  · rw [Nat.testBit_lt_two_pow (x := m) (lt_of_lt_of_le hm (Nat.pow_le_pow_right (n := 2) (by decide) (Nat.not_lt.1 h)))]
    simp

/-- A header's fixed bits stand in its first byte. -/
theorem header {b0 b1 b2 : Byte} {m v : Nat} (hm : m < 256) (h : b0.toNat &&& m = v) :
    [b0, b1, b2].length = 3 ∧ word [b0, b1, b2] &&& m = v := ⟨rfl, by rw [word_and hm, h]⟩

theorem template (rate : BitVec 5) (n : BitVec 16) : Statement (.template rate n) :=
  header (m := 0xE0) (by decide) ((by decide : ∀ r : BitVec 5, (0#2 ++ 1#1 ++ r).toNat &&& 0xE0 = 0x20) rate)

theorem delta (rate : BitVec 5) (n : BitVec 16) : Statement (.delta rate n) :=
  header (m := 0xE0) (by decide) ((by decide : ∀ r : BitVec 5, (0#2 ++ 0#1 ++ r).toNat &&& 0xE0 = 0) rate)

theorem diff1 (rateFull rateErr : BitVec 5) (k : BitVec 8) : Statement (.diff1 rateFull rateErr k) :=
  header (m := 0xC0) (by decide) ((by decide : ∀ r : BitVec 5, (1#2 ++ 0#1 ++ r).toNat &&& 0xC0 = 0x40) rateFull)

theorem diff2 (rateFull rateErr : BitVec 5) (k : BitVec 8) : Statement (.diff2 rateFull rateErr k) :=
  header (m := 0xC0) (by decide) ((by decide : ∀ r : BitVec 5, (2#2 ++ 0#1 ++ r).toNat &&& 0xC0 = 0x80) rateFull)

theorem diff3 (rateFull rateErr : BitVec 5) (k : BitVec 8) : Statement (.diff3 rateFull rateErr k) :=
  header (m := 0xC0) (by decide) ((by decide : ∀ r : BitVec 5, (3#2 ++ 0#1 ++ r).toNat &&& 0xC0 = 0xC0) rateFull)

theorem unpack0 : Statement .unpack0 := ⟨rfl, rfl⟩
theorem unpack1 : Statement .unpack1 := ⟨rfl, rfl⟩
theorem unpack2 : Statement .unpack2 := ⟨rfl, rfl⟩
theorem unpack3 : Statement .unpack3 := ⟨rfl, rfl⟩
theorem unpack4 : Statement .unpack4 := ⟨rfl, rfl⟩
theorem unpack5 : Statement .unpack5 := ⟨rfl, rfl⟩
theorem unpack6 : Statement .unpack6 := ⟨rfl, rfl⟩
theorem unpack7 : Statement .unpack7 := ⟨rfl, rfl⟩
theorem unpack8 : Statement .unpack8 := ⟨rfl, rfl⟩
theorem unpack9 : Statement .unpack9 := ⟨rfl, rfl⟩
theorem unpack10 : Statement .unpack10 := ⟨rfl, rfl⟩
theorem unpack11 : Statement .unpack11 := ⟨rfl, rfl⟩
theorem unpack12 : Statement .unpack12 := ⟨rfl, rfl⟩
theorem unpack13 : Statement .unpack13 := ⟨rfl, rfl⟩
theorem unpack14 : Statement .unpack14 := ⟨rfl, rfl⟩
theorem unpack15 : Statement .unpack15 := ⟨rfl, rfl⟩
theorem unpack16 : Statement .unpack16 := ⟨rfl, rfl⟩
theorem unpackIll17 : Statement .unpackIll17 := ⟨rfl, rfl⟩
theorem unpackIll18_19 (low : BitVec 1) : Statement (.unpackIll18_19 low) :=
  ⟨rfl, (by decide : ∀ l : BitVec 1, word (encode (.unpackIll18_19 l)) &&& 0x1E = 0x12) low⟩
theorem unpackIll20_23 (low : BitVec 2) : Statement (.unpackIll20_23 low) :=
  ⟨rfl, (by decide : ∀ l : BitVec 2, word (encode (.unpackIll20_23 l)) &&& 0x1C = 0x14) low⟩
theorem unpackIll24_31 (low : BitVec 3) : Statement (.unpackIll24_31 low) :=
  ⟨rfl, (by decide : ∀ l : BitVec 3, word (encode (.unpackIll24_31 l)) &&& 0x18 = 0x18) low⟩
theorem reset : Statement .reset := ⟨rfl, rfl⟩
theorem setup : Statement .setup := ⟨rfl, rfl⟩
theorem decode : Statement .decode := ⟨rfl, rfl⟩
theorem cmdReserved : Statement .cmdReserved := ⟨rfl, rfl⟩

end Sys2Proof.Laws.TableRow
end

