-- ==== Sys2Proof/Tests/Slice0.lean ====
section
/-!
SUPPORT. The model's own tests. Expected values come from the spec: the worked encodings of 30_encoding R109, the tables of
95_test_vectors, the rules named at each test. Then, for every obligation with hypotheses, a theorem whose name begins with
`witness` that shows concrete data meeting them together.
-/

namespace Sys2Proof.Tests

open Sys2Proof Sys2Proof.Machine Sys2Proof.Claims

/-! ## Well-formedness: one ill-formed term for each check -/

theorem test_wellFormed_largest : (Instr.template 16 4096).wellFormed = true ∧ (Instr.delta 0 1).wellFormed = true ∧
    (Instr.diff1 16 16 12).wellFormed = true ∧ Instr.unpack16.wellFormed = true ∧ Instr.decode.wellFormed = true := by decide
theorem test_illFormed_template_rate : (Instr.template 17 1).wellFormed = false := by decide
theorem test_illFormed_template_count_zero : (Instr.template 4 0).wellFormed = false := by decide
theorem test_illFormed_template_count_large : (Instr.template 4 4097).wellFormed = false := by decide
theorem test_illFormed_delta_rate : (Instr.delta 31 1).wellFormed = false := by decide
theorem test_illFormed_delta_count : (Instr.delta 4 0).wellFormed = false ∧ (Instr.delta 4 4097).wellFormed = false := by
  decide
theorem test_illFormed_diff_rateFull : (Instr.diff1 17 0 0).wellFormed = false ∧ (Instr.diff2 17 0 0).wellFormed = false ∧
    (Instr.diff3 17 0 0).wellFormed = false := by decide
theorem test_illFormed_diff_rateErr : (Instr.diff1 4 17 12).wellFormed = false ∧ (Instr.diff2 4 17 12).wellFormed = false ∧
    (Instr.diff3 4 17 12).wellFormed = false := by decide
theorem test_illFormed_diff_log2 : (Instr.diff1 4 16 13).wellFormed = false ∧ (Instr.diff2 4 16 13).wellFormed = false ∧
    (Instr.diff3 4 0 255).wellFormed = false := by decide
theorem test_illFormed_rates : Instr.unpackIll17.wellFormed = false ∧ (Instr.unpackIll18_19 1).wellFormed = false ∧
    (Instr.unpackIll20_23 2).wellFormed = false ∧ (Instr.unpackIll24_31 7).wellFormed = false := by decide
theorem test_illFormed_command : Instr.cmdReserved.wellFormed = false := by decide

/-! ## Decoding: a word written out from the spec's encoding for every constructor -/

/-- R109 and 95_test_vectors 2.1, first row: `0b001_00100`, then 256 low byte first. -/
theorem test_decode_template : decode .hdr [0b00100100#8, 0x00#8, 0x01#8] = .ok (.template 4 256, []) := by decide
theorem test_decode_delta : decode .hdr [0b00000010#8, 0x00#8, 0x01#8] = .ok (.delta 2 256, []) := by decide
theorem test_decode_diff1 : decode .hdr [0b01000100#8, 0x08#8, 0b00000010#8] = .ok (.diff1 4 2 8, []) := by decide
theorem test_decode_diff2 : decode .hdr [0b10000100#8, 0x08#8, 0b00000010#8] = .ok (.diff2 4 2 8, []) := by decide
theorem test_decode_diff3 : decode .hdr [0b11000100#8, 0x08#8, 0b00000010#8] = .ok (.diff3 4 2 8, []) := by decide
/-- 95_test_vectors 2.1: bit 5 and bits 15:13 of `hdrNum` are ignored in a diff header. -/
theorem test_decode_diff_ignored_bits : decode .hdr [0x64#8, 0x08#8, 0xE2#8] = .ok (.diff1 4 2 8, []) := by decide
/-- 95_test_vectors 2.1: in a non-diff header bits 12:8 of `hdrNum` are part of the count. -/
theorem test_decode_count_high_bits : decode .hdr [0x20#8, 0x00#8, 0x10#8] = .ok (.template 0 4096, []) := by decide
theorem test_decode_short_header : decode .hdr [0x24#8, 0x04#8] = .error .shortHeader := by decide
theorem test_decode_unpack0 : decode .rate [0b00000#8] = .ok (.unpack0, []) := by decide
theorem test_decode_unpack1 : decode .rate [0b00001#8] = .ok (.unpack1, []) := by decide
theorem test_decode_unpack2 : decode .rate [0b00010#8] = .ok (.unpack2, []) := by decide
theorem test_decode_unpack3 : decode .rate [0b00011#8] = .ok (.unpack3, []) := by decide
theorem test_decode_unpack4 : decode .rate [0b00100#8] = .ok (.unpack4, []) := by decide
theorem test_decode_unpack5 : decode .rate [0b00101#8] = .ok (.unpack5, []) := by decide
theorem test_decode_unpack6 : decode .rate [0b00110#8] = .ok (.unpack6, []) := by decide
theorem test_decode_unpack7 : decode .rate [0b00111#8] = .ok (.unpack7, []) := by decide
theorem test_decode_unpack8 : decode .rate [0b01000#8] = .ok (.unpack8, []) := by decide
theorem test_decode_unpack9 : decode .rate [0b01001#8] = .ok (.unpack9, []) := by decide
theorem test_decode_unpack10 : decode .rate [0b01010#8] = .ok (.unpack10, []) := by decide
theorem test_decode_unpack11 : decode .rate [0b01011#8] = .ok (.unpack11, []) := by decide
theorem test_decode_unpack12 : decode .rate [0b01100#8] = .ok (.unpack12, []) := by decide
theorem test_decode_unpack13 : decode .rate [0b01101#8] = .ok (.unpack13, []) := by decide
theorem test_decode_unpack14 : decode .rate [0b01110#8] = .ok (.unpack14, []) := by decide
theorem test_decode_unpack15 : decode .rate [0b01111#8] = .ok (.unpack15, []) := by decide
theorem test_decode_unpack16 : decode .rate [0b10000#8] = .ok (.unpack16, []) := by decide
theorem test_decode_ill17 : decode .rate [0b10001#8] = .ok (.unpackIll17, []) := by decide
theorem test_decode_ill18_19 : decode .rate [0b10011#8] = .ok (.unpackIll18_19 1, []) := by decide
theorem test_decode_ill20_23 : decode .rate [0b10110#8] = .ok (.unpackIll20_23 2, []) := by decide
theorem test_decode_ill24_31 : decode .rate [0b11101#8] = .ok (.unpackIll24_31 5, []) := by decide
theorem test_decode_rate_too_wide : decode .rate [0b00100000#8] = .error .rateTooWide := by decide
/-- 10_state R34: `CMD.op` is bits 1:0; 42_session_commands R171 numbers the commands. -/
theorem test_decode_reset : decode .cmd [0b00#8] = .ok (.reset, []) := by decide
theorem test_decode_setup : decode .cmd [0b01#8] = .ok (.setup, []) := by decide
theorem test_decode_decode : decode .cmd [0b10#8] = .ok (.decode, []) := by decide
theorem test_decode_reserved : decode .cmd [0b11#8] = .ok (.cmdReserved, []) := by decide
theorem test_decode_command_ignores : decodeCommand 0xFFFFFFFD#32 = .setup := by decide
/-- Table words: bit 0 is the least significant bit of the first byte. -/
theorem test_decodeTableWord : decodeTableWord 24 0x0208C4 = some (.diff3 4 2 8) ∧ decodeTableWord 8 0x10 = some .unpack16 ∧
    decodeTableWord 8 0x02 = some .decode := by decide

/-! ## One step -/

/-- A byte list. -/
def bytes (l : List Nat) : List Byte := l.map (BitVec.ofNat 8)

/-- A core inside a mono block with room for sixteen samples, this baseline and this stream, whose end is declared. -/
def inBlock (base : List Int) (stream : List Nat) : State :=
  { State.reset with
    state := .active, ready := true, numCh := 1#2, destCap := 16#32, reqSamples := 16#32, numTodo := 16#32,
    base := base.map (BitVec.ofInt 16), stream := bytes stream, streamEnded := true, phase := .cycle }

/-- A property of the next state; false where there is none. -/
def after (r : Result) (p : State → Bool) : Bool :=
  match r with
  | .next s => p s
  | .fault _ => false
  | .refused _ => false

/-- The next state has this baseline, these patterns from sample 0 of channel 0 on, and this position in the stream. -/
def cycleLeaves (base : List Int) (out : List Nat) (spos : Nat) (s : State) : Bool :=
  decide (s.base.map BitVec.toInt = base ∧ s.dst0.map Prod.snd = out.map (BitVec.ofNat 32) ∧ s.spos = spos)

/-- The values an unpacker row makes of these staged bytes. -/
def unpacks (i : Instr) (n : Nat) (stage : List Nat) (vals : List Int) : Bool :=
  after (exec i { State.reset with ready := true, stage := bytes stage, job := ⟨.delta, 0, 0, n⟩ })
    fun s => decide (s.work.map BitVec.toInt = vals)

/-- `STATUS` after a result. -/
def statusAfter (r : Result) (word : Nat) : Bool := after r fun s => decide (s.statusWord = BitVec.ofNat 32 word)

/-- A core with a word written to `CMD`. -/
def withCommand (w : Nat) (s : State) : State := { s with port := some (.write 0 (BitVec.ofNat 32 w)) }

/-! The unpackers: 95_test_vectors 2.3. -/

theorem test_unpack0 : unpacks .unpack0 4 [0xFF] [0, 0, 0, 0] = true := by decide
theorem test_unpack1 : unpacks .unpack1 4 [0x06] [0, -1, -1, 0] = true := by decide
theorem test_unpack1_byte : unpacks .unpack1 8 [0xA5] [-1, 0, -1, 0, 0, -1, 0, -1] = true := by decide
theorem test_unpack2 : unpacks .unpack2 4 [0x79] [1, -2, -1, 1] = true := by decide
theorem test_unpack2_padding : unpacks .unpack2 3 [0xFF] [-1, -1, -1] && unpacks .unpack2 3 [0x3F] [-1, -1, -1] = true := by
  decide
theorem test_unpack3 : unpacks .unpack3 4 [0xE3, 0x03] [3, -4, -1, 1] = true := by decide
theorem test_unpack3_across : unpacks .unpack3 8 [0x88, 0xC6, 0xFA] [0, 1, 2, 3, -4, -3, -2, -1] = true := by decide
theorem test_unpack4 : unpacks .unpack4 4 [0x87, 0x1F] [7, -8, -1, 1] = true := by decide
theorem test_unpack4_nibbles : unpacks .unpack4 4 [0x21, 0x8F] [1, 2, -1, -8] = true := by decide
theorem test_unpack5 : unpacks .unpack5 4 [0x0F, 0xFE, 0x00] [15, -16, -1, 1] = true := by decide
theorem test_unpack5_padding : unpacks .unpack5 7 [0x0F, 0x82, 0xF0, 0x0F, 0x06] [15, -16, 0, 1, -1, 7, -8] = true := by
  decide
theorem test_unpack6 : unpacks .unpack6 4 [0x1F, 0xF8, 0x07] [31, -32, -1, 1] = true := by decide
theorem test_unpack7 : unpacks .unpack7 4 [0x3F, 0xE0, 0x3F, 0x00] [63, -64, -1, 1] = true := by decide
theorem test_unpack8 : unpacks .unpack8 4 [0x7F, 0x80, 0xFF, 0x01] [127, -128, -1, 1] = true := by decide
theorem test_unpack9 : unpacks .unpack9 4 [0xFF, 0x00, 0xFE, 0x0F, 0x00] [255, -256, -1, 1] = true := by decide
theorem test_unpack10 : unpacks .unpack10 4 [0xFF, 0x01, 0xF8, 0x7F, 0x00] [511, -512, -1, 1] = true := by decide
theorem test_unpack11 : unpacks .unpack11 4 [0xFF, 0x03, 0xE0, 0xFF, 0x03, 0x00] [1023, -1024, -1, 1] = true := by decide
theorem test_unpack12 : unpacks .unpack12 4 [0xFF, 0x07, 0x80, 0xFF, 0x1F, 0x00] [2047, -2048, -1, 1] = true := by decide
theorem test_unpack12_two : unpacks .unpack12 2 [0x01, 0x08, 0x80] [-2047, -2048] = true := by decide
theorem test_unpack13 : unpacks .unpack13 4 [0xFF, 0x0F, 0x00, 0xFE, 0xFF, 0x00, 0x00] [4095, -4096, -1, 1] = true := by
  decide
theorem test_unpack14 : unpacks .unpack14 4 [0xFF, 0x1F, 0x00, 0xF8, 0xFF, 0x07, 0x00] [8191, -8192, -1, 1] = true := by
  decide
theorem test_unpack15 :
    unpacks .unpack15 4 [0xFF, 0x3F, 0x00, 0xE0, 0xFF, 0x3F, 0x00, 0x00] [16383, -16384, -1, 1] = true := by decide
theorem test_unpack16 :
    unpacks .unpack16 4 [0xFF, 0x7F, 0x00, 0x80, 0xFF, 0xFF, 0x01, 0x00] [32767, -32768, -1, 1] = true := by decide
theorem test_unpack16_bytes : unpacks .unpack16 2 [0xFE, 0xFF, 0x34, 0x12] [-2, 4660] = true := by decide
/-- 60_exceptions R243: `BitRate` in `status` and `fault`. -/
theorem test_illegal_rates : statusAfter (exec .unpackIll17 (inBlock [] [])) 0x332 &&
    statusAfter (exec (.unpackIll18_19 0) (inBlock [] [])) 0x332 && statusAfter (exec (.unpackIll20_23 3) (inBlock [] [])) 0x332 &&
    statusAfter (exec (.unpackIll24_31 7) (inBlock [] [])) 0x332 = true := by decide

/-! The cycles: 95_test_vectors 2.5 (T1, T4's second cycle, D1, D3, F1 to F4, F6) and 2.8 (E2, E4, E7, E8, E9, E11). -/

theorem test_template : after (step (inBlock [0, 0, 0, 0] [0x24, 4, 0, 0x21, 0x8F]))
    (cycleLeaves [1, 2, -1, -8] [0x38000000, 0x38800000, 0xB8000000, 0xB9800000] 5) = true := by decide
theorem test_template_silence : after (step (inBlock [7, 7] [0x20, 1, 0]))
    (cycleLeaves [0, 7] [0] 3) = true := by decide
theorem test_delta : after (step (inBlock [1, 2, -1, -8] [0x02, 4, 0, 0x8D]))
    (cycleLeaves [2, 1, -1, -10] [0x38800000, 0x38000000, 0xB8000000, 0xB9A00000] 4) = true := by decide
theorem test_delta_wraps : after (step (inBlock [32767, -32768] [0x02, 2, 0, 0x0D]))
    (cycleLeaves [-32768, 32767] [0xBF800000, 0x3F7FFE00] 4) = true := by decide
theorem test_diff1 : after (step (inBlock [9, 9, 9, 9] [0x44, 2, 2, 0x05, 0xB1]))
    (cycleLeaves [6, 5, 4, 3] [0x39400000, 0x39200000, 0x39000000, 0x38C00000] 5) = true := by decide
theorem test_diff1_wraps : after (step (inBlock [9] [0x50, 0, 0x10, 0xFF, 0x7F, 0x01, 0x00]))
    (cycleLeaves [-32768] [0xBF800000] 7) = true := by decide
theorem test_diff2 : after (step (inBlock [9, 9, 9, 9, 9, 9, 9, 9] [0x83, 3, 0, 0x23]))
    (cycleLeaves [3, 3, 3, 3, -4, -4, -4, -4] [0x38C00000, 0x38C00000, 0x38C00000, 0x38C00000,
      0xB9000000, 0xB9000000, 0xB9000000, 0xB9000000] 4) = true := by decide
theorem test_diff3_full_rate_zero : after (step (inBlock [9, 9, 9, 9] [0xC0, 2, 2, 0xB1]))
    (cycleLeaves [1, 0, -1, -2] [0x38000000, 0, 0xB8000000, 0xB8800000] 4) = true := by decide
theorem test_short_payload : after (step (inBlock [1, 2, -1, -8] [0x28, 4, 0, 0x01, 0x02]))
    (fun s => cycleLeaves [1, 2, -1, -8] [] 5 s && decide (s.statusWord = 0x102#32)) = true := by decide
theorem test_short_error_stream : after (step (inBlock [1, 2, -1, -8] [0x44, 2, 2, 0x05]))
    (fun s => cycleLeaves [5, 5, 5, 5] [] 4 s && decide (s.statusWord = 0x102#32)) = true := by decide
theorem test_illegal_headers : statusAfter (step (inBlock [] [0x31, 4, 0, 0, 0])) 0x332 &&
    statusAfter (step (inBlock [] [0x24, 0, 0])) 0x442 && statusAfter (step (inBlock [] [0x44, 0x0D, 0x11])) 0x332 &&
    statusAfter (step (inBlock [] [0x44, 0x0D, 0x10])) 0x442 && statusAfter (step (inBlock [] [0x40, 5, 0])) 0x552 = true := by
  decide
theorem test_short_header : after (step (inBlock [] [0x31, 4]))
    (fun s => decide (s.statusWord = 0x102#32 ∧ s.spos = 2 ∧ s.hdrInfo = 0#8)) = true := by decide

/-! The commands: 95_test_vectors 2.7 (M2 to M7, M11), 2.8 (E3, E5) and the refusals of R174. -/

/-- An Idle core with buffers and a request of four samples. -/
def requesting (offset : Nat) (numCh : BitVec 2) : State :=
  { State.reset with
    ready := true, argOffset := BitVec.ofNat 32 offset, argNumSamples := 4#32, argNumCh := numCh, argDestCap := 10#32 }

theorem test_reset : statusAfter (step (withCommand 0 State.reset)) 0x000 = true := by decide
theorem test_setup : statusAfter (step (withCommand 1 State.reset)) 0x002 = true := by decide
theorem test_setup_clears_fault : statusAfter (step (withCommand 1 { State.reset with fault := 3#4, status := 8#4 })) 0x002 = true := by
  decide
theorem test_decode_not_set_up : statusAfter (step (withCommand 2 State.reset)) 0x600 = true := by decide
theorem test_decode_starts : after (step (withCommand 2 (requesting 0 1#2)))
    (fun s => decide (s.statusWord = 0x003#32 ∧ s.reqSamples = 4#32 ∧ s.destCap = 10#32)) = true := by decide
theorem test_decode_offset : statusAfter (step (withCommand 2 (requesting 5 1#2))) 0x202 = true := by decide
theorem test_decode_channels_first : statusAfter (step (withCommand 2 (requesting 5 3#2))) 0x702 = true := by decide
theorem test_decode_faulted : statusAfter (step (withCommand 2 { requesting 0 1#2 with fault := 3#4 })) 0x832 = true := by
  decide
theorem test_reserved : statusAfter (step (withCommand 3 State.reset)) 0x700 = true := by decide
theorem test_reserved_ready : statusAfter (step (withCommand 3 (requesting 0 1#2))) 0x702 = true := by decide

/-- A word of each format, stored where the next step fetches, runs right after reset. -/
theorem test_withFetchWord : after (step (State.reset.withFetchWord 24 0x000424)) (fun s => decide (s.spos = 5)) &&
    after (step (State.reset.withFetchWord 8 0x10)) (fun s => decide (s.spos = 2)) &&
    after (step (State.reset.withFetchWord 8 0x01)) (fun s => s.ready) = true := by decide

/-! ## Witnesses: the hypotheses of the obligations are met -/

/-- A core inside a mono block of 4096 samples with its buffers allocated, this stream, and the end declared. -/
def running (stream : List Byte) : State :=
  { State.reset with
    state := .active, ready := true, numCh := 1#2, destCap := 4096#32, reqSamples := 4096#32, numTodo := 4096#32,
    base := List.replicate 4096 0#16, work := List.replicate 4096 0#16, stage := List.replicate 8192 0#8
    stream := stream, streamEnded := true, phase := .cycle }

theorem running_fits (stream : List Byte) (n : Nat) (h : 1 ≤ n ∧ n ≤ 4096) : CycleFits (running stream) n :=
  ⟨rfl, List.length_replicate, h, by show 0 + n ≤ 4096; omega, by show 0 < 1; decide, by show 0 + 0 + n ≤ 4096; omega⟩

theorem running_inv (stream : List Byte) : (running stream).Inv where
  buffers := ⟨fun _ => ⟨List.length_replicate, List.length_replicate, List.length_replicate⟩, fun h => Bool.noConfusion h⟩
  perf := ⟨fun _ => ⟨rfl, rfl⟩, Nat.zero_le _⟩
  dst0 := rfl
  dst1 := rfl
  status := Nat.zero_le _
  fault := .inl rfl
  cursor := Nat.zero_le _
  quota := by show (4096#32).toNat ≤ 4096; decide
  idle := fun h => RunState.noConfusion h
  active := fun _ =>
    { noFault := rfl
      ready := rfl
      statusOk := rfl
      channels := .inl rfl
      capacity := by show (4096#32).toNat < 2 ^ 31; decide
      request := le_rfl
      channel := Nat.zero_lt_one
      produced := Nat.zero_le _
      block := fun _ => ⟨le_of_eq (Nat.zero_add _), by show 1 ≤ (4096#32).toNat; decide, Nat.zero_le _⟩
      cycle := fun h => Phase.noConfusion h }

/-- A core with its buffers allocated, Idle, about to run the DECODE of a request of `n` samples. -/
def requested (n : Nat) (stream : List Byte) : State :=
  { State.reset with
    ready := true, base := List.replicate 4096 0#16, work := List.replicate 4096 0#16, stage := List.replicate 8192 0#8
    argNumSamples := BitVec.ofNat 32 n, argNumCh := 1#2, argDestCap := 4096#32, stream := stream
    port := some (.write 0 2#32) }

theorem requested_inv (n : Nat) (stream : List Byte) : (requested n stream).Inv where
  buffers := ⟨fun _ => ⟨List.length_replicate, List.length_replicate, List.length_replicate⟩, fun h => Bool.noConfusion h⟩
  perf := ⟨fun _ => ⟨rfl, rfl⟩, Nat.zero_le _⟩
  dst0 := rfl
  dst1 := rfl
  status := Nat.zero_le _
  fault := .inl rfl
  cursor := Nat.zero_le _
  quota := Nat.zero_le _
  idle := fun _ => rfl
  active := fun h => RunState.noConfusion h

/-- A payload of `n` bytes. -/
def payload (n : Nat) : List Byte := List.replicate n 0x5A#8

theorem payload_length (n : Nat) : (payload n).length = n := List.length_replicate

theorem running_base_length (v : Sample) : ([v] ++ (List.replicate 4096 0#16).drop 1).length = Config.block := by
  rw [List.length_append, List.length_drop, List.length_replicate]; rfl

/-! Encoding -/

theorem witness_IgnoredBitsHaveNoEffect :
    (0x44#8 &&& 0xC0#8 ≠ 0#8 ∧ 0x44#8 &&& 0xDF#8 = 0x64#8 &&& 0xDF#8 ∧ 0x0208#16 &&& 0x1FFF#16 = 0xE208#16 &&& 0x1FFF#16) ∧
    (∀ t, t < 2 * 3 → payloadBit [0xFF#8] t = payloadBit [0x3F#8] t) ∧ 0x3F#8 &&& 0xC0#8 = 0#8 := by decide
theorem witness_HeaderAccessors : { State.reset with hdrInfo := 0x44#8 }.hdrInfo = 0x44#8 ∧
    { State.reset with hdrInfo := 0x24#8 }.hdrInfo = 0x24#8 ∧ { State.reset with hdrInfo := 0x04#8 }.hdrInfo = 0x04#8 ∧
    { State.reset with hdrInfo := 0x64#8 }.hdrInfo = 0x64#8 := ⟨rfl, rfl, rfl, rfl⟩
theorem witness_HeaderSelectsMode : 0x3F#8 &&& 0xE0#8 = 0x20#8 ∧ 0x1F#8 &&& 0xE0#8 = 0x00#8 ∧ 0x60#8 &&& 0xC0#8 = 0x40#8 ∧
    0xBF#8 &&& 0xC0#8 = 0x80#8 ∧ 0xFF#8 &&& 0xC0#8 = 0xC0#8 := by decide
theorem witness_HeaderAccessors_ranges : 0x44#8 &&& 0xC0#8 ≠ 0#8 ∧ 13 ≤ (0x000D#16 &&& 0xFF#16).toNat := by decide
theorem witness_RateSelectsUnpacker : (0#5).toNat ≤ 16 ∧ (16#5).toNat ≤ 16 ∧ (16 < (17#5).toNat ∨ 16 < (0#5).toNat) ∧
    (16 < (16#5).toNat ∨ 16 < (17#5).toNat) := by decide
/-- Each of the three answers has a state: a byte stands, the end is declared, neither. -/
theorem test_streamAtEnd : (running [0#8]).streamAtEnd = some false ∧ (running []).streamAtEnd = some true ∧
    { running [] with streamEnded := false }.streamAtEnd = none := ⟨rfl, rfl, rfl⟩

/-! Steps -/

theorem witness_StepRunsCommandWord : (withCommand 3 State.reset).state = .idle ∧
    (withCommand 3 State.reset).port = some (.write 0 3#32) := ⟨rfl, rfl⟩
theorem witness_StepRunsCycleHeader :
    let s := running [0x24#8, 0x04#8, 0x00#8, 0x21#8, 0x8F#8]
    s.port = none ∧ s.state = .active ∧ s.phase = .cycle ∧ s.indexInBlock.toNat < s.numTodo.toNat ∧
      s.stream = 0x24#8 :: 0x04#8 :: 0x00#8 :: [0x21#8, 0x8F#8] := ⟨rfl, rfl, rfl, by decide, rfl⟩
theorem witness_StepRunsUnpackerRow_illegal :
    let s := { running [] with phase := .payload, job := ⟨.template, 17#5, 0#5, 4⟩ }
    s.port = none ∧ s.state = .active ∧ s.phase = .payload ∧ 16 < s.job.rate.toNat := ⟨rfl, rfl, rfl, by decide⟩
theorem witness_StepRunsUnpackerRow :
    let s := { running [0xFE#8, 0xFF#8] with phase := .payload, job := ⟨.error, 0#5, 16#5, 1⟩ }
    let t := { running [] with phase := .payload, job := ⟨.anchors, 0#5, 16#5, 4096⟩ }
    (s.port = none ∧ s.state = .active ∧ s.phase = .payload ∧ s.job.rate.toNat ≤ 16 ∧ s.stream = [0xFE#8, 0xFF#8] ++ [] ∧
      [0xFE#8, 0xFF#8].length = byteAmount s.job.rate.toNat s.job.count) ∧
    (t.port = none ∧ t.state = .active ∧ t.phase = .payload ∧ t.job.rate.toNat ≤ 16 ∧ t.stream = [] ++ [] ∧
      ([] : List Byte).length = byteAmount t.job.rate.toNat t.job.count) :=
  ⟨⟨rfl, rfl, rfl, by decide, rfl, by decide⟩, ⟨rfl, rfl, rfl, by decide, rfl, by decide⟩⟩

/-! The entropy decoder and the arithmetic -/

theorem witness_UnpackIsIntegerFormula : (16 ≤ 16 ∧ 0 < 1 ∧ 1 ≤ 16) ∧ (0 ≤ 16 ∧ 4095 < 4096 ∧ (0 : Nat) = 0) := by decide
theorem witness_UnpackerRowsComplete : (running []).ready = true ∧ 0 < { running [] with job := ⟨.delta, 4, 0, 4⟩ }.job.count :=
  ⟨rfl, by decide⟩
theorem witness_UnpackByteLayouts : 4095 < 4096 ∧ 0 < 1 := by decide
theorem witness_PackedValuesRoundTrip :
    (1 ≤ 3 ∧ 3 ≤ 16 ∧ (∀ v ∈ [3#16, BitVec.ofInt 16 (-4)], -(2 : Int) ^ (3 - 1) ≤ v.toInt ∧ v.toInt ≤ 2 ^ (3 - 1) - 1) ∧
      ∀ i, i < 2 → ∀ b, b < 3 →
        payloadBit [0x23#8] (i * 3 + b) = ([3#16, BitVec.ofInt 16 (-4)].getD i 0#16).getLsbD b) ∧
    (1 ≤ 1 ∧ (∀ v ∈ [0#16, 0xFFFF#16], -(2 : Int) ^ (1 - 1) ≤ v.toInt ∧ v.toInt ≤ 2 ^ (1 - 1) - 1) ∧
      ∀ i, i < 2 → ∀ b, b < 1 → payloadBit [0x02#8] (i * 1 + b) = ([0#16, 0xFFFF#16].getD i 0#16).getLsbD b) :=
  ⟨⟨by decide, by decide, by simp, by decide⟩, ⟨by decide, by simp, by decide⟩⟩
theorem witness_ByteAmountRoundsUp : 16 ≤ 16 ∧ 4096 ≤ 4096 := by decide
theorem witness_AnchorsAreHeld : (1 ≤ 1 ∧ [5#16].length = numAnchors 1 ∧ 0 < 1) ∧
    (1 ≤ 8 ∧ [5#16, 6#16].length = numAnchors 8 ∧ 7 < 8) := by decide
theorem witness_ConversionIsOddAndInjective : i16ToF32 7#16 = i16ToF32 7#16 ∧ 1 ≤ (1#16).toInt ∧ 1 ≤ (32767#16).toInt := by
  decide

/-! The cycles -/

theorem witness_TemplateCompletes :
    ((16#5).toNat ≤ 16 ∧ CycleFits (running (payload 8192 ++ [])) (4096#16).toNat ∧
      (running (payload 8192 ++ [])).stream = payload 8192 ++ [] ∧
      (payload 8192).length = byteAmount (16#5).toNat (4096#16).toNat) ∧
    ((0#5).toNat ≤ 16 ∧ CycleFits (running ([] ++ payload 1)) (1#16).toNat ∧
      (running ([] ++ payload 1)).stream = [] ++ payload 1 ∧
      ([] : List Byte).length = byteAmount (0#5).toNat (1#16).toNat ∧ (0#5 : BitVec 5) = 0#5) :=
  ⟨⟨by decide, running_fits _ _ (by decide), rfl, (payload_length _).trans (by decide)⟩,
    ⟨by decide, running_fits _ _ (by decide), rfl, by decide, rfl⟩⟩
/-- The hypotheses of a DELTA cycle are those of a TEMPLATE cycle; here one whose residual follows other bytes. -/
theorem witness_DeltaCompletes :
    ((1#5).toNat ≤ 16 ∧ CycleFits (running ([0x06#8] ++ [0x20#8])) (8#16).toNat ∧
      (running ([0x06#8] ++ [0x20#8])).stream = [0x06#8] ++ [0x20#8] ∧
      [0x06#8].length = byteAmount (1#5).toNat (8#16).toNat) ∧
    ((0#5).toNat ≤ 16 ∧ CycleFits (running ([] ++ [])) (4096#16).toNat ∧ (running ([] ++ [])).stream = [] ++ [] ∧
      ([] : List Byte).length = byteAmount (0#5).toNat (4096#16).toNat) :=
  ⟨⟨by decide, running_fits _ _ (by decide), rfl, by decide⟩, ⟨by decide, running_fits _ _ (by decide), rfl, by decide⟩⟩
theorem witness_DiffRowsComplete :
    ((16#5).toNat ≤ 16 ∧ (16#5).toNat ≤ 16 ∧ (12#8).toNat ≤ 12 ∧
      CycleFits (running (payload 2048 ++ (payload 8192 ++ []))) (2 ^ (12#8).toNat) ∧
      (running (payload 2048 ++ (payload 8192 ++ []))).stream = payload 2048 ++ (payload 8192 ++ []) ∧
      (payload 2048).length = byteAmount (16#5).toNat (numAnchors (2 ^ (12#8).toNat)) ∧
      (payload 8192).length = byteAmount (16#5).toNat (2 ^ (12#8).toNat)) ∧
    ((3#5).toNat ≤ 16 ∧ (0#5).toNat ≤ 16 ∧ (0#8).toNat ≤ 12 ∧ CycleFits (running ([0x03#8] ++ ([] ++ []))) (2 ^ (0#8).toNat) ∧
      (running ([0x03#8] ++ ([] ++ []))).stream = [0x03#8] ++ ([] ++ []) ∧
      [0x03#8].length = byteAmount (3#5).toNat (numAnchors (2 ^ (0#8).toNat)) ∧
      ([] : List Byte).length = byteAmount (0#5).toNat (2 ^ (0#8).toNat)) :=
  ⟨⟨by decide, by decide, by decide, running_fits _ _ (by decide), rfl, (payload_length _).trans (by decide),
      (payload_length _).trans (by decide)⟩,
    ⟨by decide, by decide, by decide, running_fits _ _ (by decide), rfl, by decide, by decide⟩⟩
/-- Each check at its boundary: rate 17, error rate 17, counts 0 and 4097, `k = 13`, and one sample more than the room. -/
theorem witness_IllegalHeadersRejected :
    16 < (17#5).toNat ∧ ((16#5).toNat ≤ 16 ∧ 16 < (17#5).toNat) ∧
    ((16#5).toNat ≤ 16 ∧ (0#5).toNat ≤ 16 ∧ ¬(1 ≤ (0#16).toNat ∧ (0#16).toNat ≤ 4096)) ∧
    ((16#5).toNat ≤ 16 ∧ (0#5).toNat ≤ 16 ∧ ¬(1 ≤ (4097#16).toNat ∧ (4097#16).toNat ≤ 4096)) ∧
    ((16#5).toNat ≤ 16 ∧ (16#5).toNat ≤ 16 ∧ ¬(13#8).toNat ≤ 12) ∧
    ((16#5).toNat ≤ 16 ∧ (0#5).toNat ≤ 16 ∧ (1 ≤ (4096#16).toNat ∧ (4096#16).toNat ≤ 4096) ∧
      { running [] with indexInBlock := 1#32 }.numTodo.toNat <
        { running [] with indexInBlock := 1#32 }.indexInBlock.toNat + (4096#16).toNat) ∧
    ((16#5).toNat ≤ 16 ∧ (16#5).toNat ≤ 16 ∧ (12#8).toNat ≤ 12 ∧
      { running [] with indexInBlock := 1#32 }.numTodo.toNat <
        { running [] with indexInBlock := 1#32 }.indexInBlock.toNat + 2 ^ (12#8).toNat) := by decide
theorem witness_ShortPayloadAborts :
    (16#5).toNat ≤ 16 ∧ CycleFits (running (payload 8191)) (4096#16).toNat ∧ (running (payload 8191)).streamEnded = true ∧
      (running (payload 8191)).stream.length < byteAmount (16#5).toNat (4096#16).toNat :=
  ⟨by decide, running_fits _ _ (by decide), rfl, lt_of_eq_of_lt (payload_length _) (by decide)⟩
theorem witness_ShortDiffPayloadAborts_full :
    (4#5).toNat ≤ 16 ∧ (2#5).toNat ≤ 16 ∧ (2#8).toNat ≤ 12 ∧ CycleFits (running []) (2 ^ (2#8).toNat) ∧
      (running []).streamEnded = true ∧ (running []).stream.length < byteAmount (4#5).toNat (numAnchors (2 ^ (2#8).toNat)) :=
  ⟨by decide, by decide, by decide, running_fits _ _ (by decide), rfl, by decide⟩
theorem witness_ShortDiffPayloadAborts_error :
    (4#5).toNat ≤ 16 ∧ (16#5).toNat ≤ 16 ∧ (12#8).toNat ≤ 12 ∧
      CycleFits (running (payload 512 ++ payload 8191)) (2 ^ (12#8).toNat) ∧
      (running (payload 512 ++ payload 8191)).streamEnded = true ∧
      (running (payload 512 ++ payload 8191)).stream = payload 512 ++ payload 8191 ∧ 0 < (16#5).toNat ∧
      (payload 512).length = byteAmount (4#5).toNat (numAnchors (2 ^ (12#8).toNat)) ∧
      (payload 8191).length < byteAmount (16#5).toNat (2 ^ (12#8).toNat) :=
  ⟨by decide, by decide, by decide, running_fits _ _ (by decide), rfl, rfl, by decide, (payload_length _).trans (by decide),
    lt_of_eq_of_lt (payload_length _) (by decide)⟩
theorem witness_WaitingCycleResumes :
    let s := { running (payload 1) with streamEnded := false }
    s.state = .active ∧ s.port = none ∧ s.streamEnded = false ∧ (4#5).toNat ≤ 16 ∧ CycleFits s (4#16).toNat ∧
      s.stream.length < byteAmount (4#5).toNat (4#16).toNat :=
  ⟨rfl, rfl, rfl, by decide,
    ⟨rfl, List.length_replicate, by decide, by decide, by decide, by decide⟩,
    lt_of_eq_of_lt (payload_length _) (by decide)⟩
theorem witness_WaitingCycleResumes_full :
    let s := { running [] with streamEnded := false }
    s.state = .active ∧ s.port = none ∧ s.streamEnded = false ∧ (4#5).toNat ≤ 16 ∧ (2#5).toNat ≤ 16 ∧ (2#8).toNat ≤ 12 ∧
      CycleFits s (2 ^ (2#8).toNat) ∧ s.stream.length < byteAmount (4#5).toNat (numAnchors (2 ^ (2#8).toNat)) :=
  ⟨rfl, rfl, rfl, by decide, by decide, by decide,
    ⟨rfl, List.length_replicate, by decide, by decide, by decide, by decide⟩, by decide⟩
theorem witness_WaitingCycleResumes_error :
    let s := { running (payload 512 ++ payload 8191) with streamEnded := false }
    s.state = .active ∧ s.port = none ∧ s.streamEnded = false ∧ (4#5).toNat ≤ 16 ∧ (16#5).toNat ≤ 16 ∧ (12#8).toNat ≤ 12 ∧
      CycleFits s (2 ^ (12#8).toNat) ∧ s.stream = payload 512 ++ payload 8191 ∧ 0 < (16#5).toNat ∧
      (payload 512).length = byteAmount (4#5).toNat (numAnchors (2 ^ (12#8).toNat)) ∧
      (payload 8191).length < byteAmount (16#5).toNat (2 ^ (12#8).toNat) :=
  ⟨rfl, rfl, rfl, by decide, by decide, by decide,
    ⟨rfl, List.length_replicate, by decide, by decide, by decide, by decide⟩, rfl, by decide,
    (payload_length _).trans (by decide), lt_of_eq_of_lt (payload_length _) (by decide)⟩
/-- A DIFF cycle that waits in its error sub-stream, and the same cycle once the host has supplied the byte: vector F1. -/
theorem test_diff_waits_and_resumes :
    after (step { inBlock [9, 9, 9, 9] [0x44, 2, 2, 0x05] with streamEnded := false })
      (fun w => decide (w.phase = .payload) && cycleLeaves [5, 5, 5, 5] [] 4 w &&
        after (step (supplied w [0xB1#8] false))
          (cycleLeaves [6, 5, 4, 3] [0x39400000, 0x39200000, 0x39000000, 0x38C00000] 5)) = true := by decide
theorem witness_ShortHeaderAborts :
    let s := running (payload 2)
    let t := { running [] with streamEnded := false }
    (s.port = none ∧ s.state = .active ∧ s.phase = .cycle ∧ s.indexInBlock.toNat < s.numTodo.toNat ∧ s.stream.length < 3 ∧
      s.streamEnded = true) ∧
    (t.port = none ∧ t.state = .active ∧ t.phase = .cycle ∧ t.indexInBlock.toNat < t.numTodo.toNat ∧ t.stream.length < 3 ∧
      t.streamEnded = false) :=
  ⟨⟨rfl, rfl, rfl, by decide, by decide, rfl⟩, ⟨rfl, rfl, rfl, by decide, by decide, rfl⟩⟩

/-! The commands -/

theorem witness_DecodeAccepted :
    let s := { requesting 0 2#2 with argNumSamples := 0xFFFFFFFF#32, argDestCap := 0x7FFFFFFF#32 }
    let t := { requesting 0 1#2 with argNumSamples := 10#32 }
    (s.fault = 0#4 ∧ s.ready = true ∧ (s.argNumCh = 1#2 ∨ s.argNumCh = 2#2) ∧ s.argDestCap.toNat < 2 ^ 31 ∧
      (s.argNumSamples.toInt < 0 ∨ s.argNumSamples.toNat ≤ s.argDestCap.toNat) ∧ s.argOffset = s.readOffset) ∧
    (t.fault = 0#4 ∧ t.ready = true ∧ (t.argNumCh = 1#2 ∨ t.argNumCh = 2#2) ∧ t.argDestCap.toNat < 2 ^ 31 ∧
      (t.argNumSamples.toInt < 0 ∨ t.argNumSamples.toNat ≤ t.argDestCap.toNat) ∧ t.argOffset = t.readOffset) := by decide
/-- One state for each of the six clauses, every later check failing too where it can. -/
theorem witness_DecodeRefusedInOrder :
    let s := { requesting 5 1#2 with argNumSamples := 11#32 }
    { State.reset with fault := 5#4 }.fault ≠ 0#4 ∧ (State.reset.fault = 0#4 ∧ State.reset.ready = false) ∧
    ((requesting 5 3#2).fault = 0#4 ∧ (requesting 5 3#2).ready = true ∧ (requesting 5 3#2).argNumCh ≠ 1#2 ∧
      (requesting 5 3#2).argNumCh ≠ 2#2) ∧
    2 ^ 31 ≤ { requesting 5 1#2 with argDestCap := 0x80000000#32 }.argDestCap.toNat ∧
    (s.argDestCap.toNat < 2 ^ 31 ∧
      s.argDestCap.toNat < (if s.argNumSamples.toInt < 0 then s.argDestCap else s.argNumSamples).toNat) ∧
    ((requesting 5 1#2).argNumCh = 1#2 ∧ (requesting 5 1#2).argDestCap.toNat < 2 ^ 31 ∧
      (requesting 5 1#2).argNumSamples.toNat ≤ (requesting 5 1#2).argDestCap.toNat ∧
      (requesting 5 1#2).argOffset ≠ (requesting 5 1#2).readOffset) := by decide
theorem witness_CommandDroppedWhileActive : (withCommand 1 (inBlock [] [])).state = .active ∧
    (withCommand 1 (inBlock [] [])).port = some (.write 0 1#32) := ⟨rfl, rfl⟩
theorem witness_FaultIsSticky :
    let s := { State.reset with fault := 3#4 }
    (s.fault ≠ 0#4 ∧ step s = .next s ∧ ¬ commandAt s 0#2 ∧ ¬ commandAt s 1#2) ∧
    (∃ t, step (withCommand 0 s) = .next t ∧ (commandAt (withCommand 0 s) 0#2 ∨ commandAt (withCommand 0 s) 1#2)) :=
  ⟨⟨by decide, rfl, fun ⟨_, _, h, _⟩ => Option.noConfusion rfl (heq_of_eq h), fun ⟨_, _, h, _⟩ => Option.noConfusion rfl (heq_of_eq h)⟩,
    ⟨_, rfl, .inl ⟨rfl, 0#32, rfl, rfl⟩⟩⟩

/-! The loop controller -/

/-- A core at the loop tests. -/
def atLoop (readIndex : Nat) (stream : List Byte) (ended : Bool) : State :=
  { running stream with phase := .blockTest, readIndex := BitVec.ofNat 32 readIndex, streamEnded := ended }

theorem witness_LoopTests :
    ((atLoop 4096 [] true).port = none ∧ (atLoop 4096 [] true).state = .active ∧ (atLoop 4096 [] true).phase = .blockTest ∧
      (atLoop 4096 [] true).perfEnable = false ∧ (atLoop 4096 [] true).reqSamples.toNat ≤ (atLoop 4096 [] true).readIndex.toNat) ∧
    ((atLoop 4095 [] true).readIndex.toNat < (atLoop 4095 [] true).reqSamples.toNat ∧ (atLoop 4095 [] true).stream = [] ∧
      (atLoop 4095 [] true).streamEnded = true) ∧
    ((atLoop 0 [] false).readIndex.toNat < (atLoop 0 [] false).reqSamples.toNat ∧ (atLoop 0 [] false).stream = [] ∧
      (atLoop 0 [] false).streamEnded = false) :=
  ⟨⟨rfl, rfl, rfl, rfl, by decide⟩, ⟨by decide, rfl, rfl⟩, ⟨by decide, rfl, rfl⟩⟩
theorem witness_BlockBegins :
    let s := atLoop 4095 [0x20#8] false
    s.port = none ∧ s.state = .active ∧ s.phase = .blockTest ∧ s.stream ≠ [] ∧ s.readIndex.toNat < s.reqSamples.toNat :=
  ⟨rfl, rfl, rfl, List.cons_ne_nil _ _, by decide⟩
theorem witness_BlockEnds :
    let s := { running [] with indexInBlock := 4096#32 }
    let t := { running [] with indexInBlock := 4096#32, numCh := 2#2 }
    let u := { running [] with indexInBlock := 4096#32, numCh := 2#2, chan := 1#1 }
    (s.port = none ∧ s.state = .active ∧ s.phase = .cycle ∧ s.numTodo.toNat ≤ s.indexInBlock.toNat ∧ s.numCh = 1#2 ∧
      s.chan = 0#1) ∧
    (t.port = none ∧ t.state = .active ∧ t.phase = .cycle ∧ t.numTodo.toNat ≤ t.indexInBlock.toNat ∧ t.numCh = 2#2 ∧
      t.chan = 0#1) ∧
    (u.port = none ∧ u.state = .active ∧ u.phase = .cycle ∧ u.numTodo.toNat ≤ u.indexInBlock.toNat ∧ u.numCh = 2#2 ∧
      u.chan = 1#1) :=
  ⟨⟨rfl, rfl, rfl, by decide, rfl, rfl⟩, ⟨rfl, rfl, rfl, by decide, rfl, rfl⟩, ⟨rfl, rfl, rfl, by decide, rfl, rfl⟩⟩

/-! The register port -/

theorem witness_RegisterReads : { State.reset with port := some (.read 10) }.port = some (.read 10) ∧
    State.reset.perfEnable = false ∧ 4 < 5 ∧ 11 ≤ 11 := by decide
theorem witness_RegisterWrites :
    let s (a : Nat) := { State.reset with port := some (.write a 7#32) }
    let t (a : Nat) := { inBlock [] [] with port := some (.write a 7#32) }
    ((s 1).state = .idle ∧ (s 1).port = some (.write 1 7#32) ∧ (s 2).port = some (.write 2 7#32) ∧
      (s 3).port = some (.write 3 7#32) ∧ (s 4).port = some (.write 4 7#32) ∧ (s 5).port = some (.write 5 7#32)) ∧
    ((t 1).state = .active ∧ (t 1).port = some (.write 1 7#32) ∧ (t 4).port = some (.write 4 7#32)) := by decide
theorem witness_ArgRegistersKept :
    step State.reset = .next State.reset ∧ ¬ argWriteAt State.reset :=
  ⟨rfl, fun ⟨_, _, h, _⟩ => Option.noConfusion rfl (heq_of_eq h)⟩
theorem witness_InstrumentationToggle : step State.reset = .next State.reset ∧
    hostInput .declareEnd State.reset = .next { State.reset with streamEnded := true } ∧ State.reset.perfEnable = false ∧
    State.reset.perfHist = [] ∧ State.reset.perfRatio = 0#32 := ⟨rfl, rfl, rfl, rfl, rfl⟩
theorem witness_ThroughputHistory_ends :
    let s := { running [] with perfEnable := true }
    s.perfEnable = true ∧ s.perfHist.length ≤ Config.histDepth ∧ ∃ t, step s = .next t ∧ endsDecode s t :=
  ⟨rfl, Nat.zero_le _, _, rfl, rfl, rfl⟩
theorem witness_ThroughputHistory_clears :
    let s := withCommand 1 { State.reset with perfEnable := true }
    s.perfEnable = true ∧ s.perfHist.length ≤ Config.histDepth ∧ (∃ t, step s = .next t) ∧ commandAt s 1#2 :=
  ⟨rfl, Nat.zero_le _, ⟨_, rfl⟩, rfl, 1#32, rfl, rfl⟩
theorem witness_ThroughputHistory_keeps :
    let s := { State.reset with perfEnable := true }
    s.perfEnable = true ∧ s.perfHist.length ≤ Config.histDepth ∧ step s = .next s ∧ ¬ endsDecode s s ∧ ¬ commandAt s 0#2 ∧
      ¬ commandAt s 1#2 :=
  ⟨rfl, Nat.zero_le _, rfl, fun h => RunState.noConfusion h.1, fun ⟨_, _, h, _⟩ => Option.noConfusion rfl (heq_of_eq h),
    fun ⟨_, _, h, _⟩ => Option.noConfusion rfl (heq_of_eq h)⟩

/-! The whole machine -/

theorem witness_StepKeepsInvariant : (running []).Inv ∧ ∃ t, step (running []) = .next t := ⟨running_inv [], ⟨_, rfl⟩⟩
theorem witness_HostInputKeepsInvariant : (running []).Inv ∧ ∃ t, hostInput .powerOn (running []) = .next t :=
  ⟨running_inv [], ⟨_, rfl⟩⟩
theorem witness_StepNeverFaults : (requested 4 []).Inv := requested_inv 4 []
theorem witness_StreamNeverRewinds : ∃ t, step (running (payload 2)) = .next t := ⟨_, rfl⟩
theorem witness_DestinationWritesInBounds :
    after (step (inBlock [0] [0x28, 1, 0, 0x01])) (fun t => decide (t.dstRead 0#1 0 = some 0x38000000#32 ∧
      (inBlock [0] [0x28, 1, 0, 0x01]).dstRead 0#1 0 = none)) = true := by decide
theorem witness_OldBaselineNotRead_template :
    let s := running ([0x05#8] ++ [])
    (8#5).toNat ≤ 16 ∧ (2#5).toNat ≤ 16 ∧ [7#16].length = (1#16).toNat ∧ [9#16].length = (1#16).toNat ∧
      CycleFits { s with base := [7#16] ++ s.base.drop (1#16).toNat } (1#16).toNat ∧ s.stream = [0x05#8] ++ [] ∧
      [0x05#8].length = byteAmount (8#5).toNat (1#16).toNat :=
  ⟨by decide, by decide, rfl, rfl, ⟨rfl, running_base_length 7#16, by decide, by decide, by decide, by decide⟩, rfl, rfl⟩
theorem witness_OldBaselineNotRead_diff :
    let s := running ([0x05#8] ++ ([0x01#8] ++ []))
    (8#5).toNat ≤ 16 ∧ (2#5).toNat ≤ 16 ∧ (0#8).toNat ≤ 12 ∧ [7#16].length = 2 ^ (0#8).toNat ∧
      [9#16].length = 2 ^ (0#8).toNat ∧ CycleFits { s with base := [7#16] ++ s.base.drop (2 ^ (0#8).toNat) } (2 ^ (0#8).toNat) ∧
      s.stream = [0x05#8] ++ ([0x01#8] ++ []) ∧ [0x05#8].length = byteAmount (8#5).toNat (numAnchors (2 ^ (0#8).toNat)) ∧
      [0x01#8].length = byteAmount (2#5).toNat (2 ^ (0#8).toNat) :=
  ⟨by decide, by decide, by decide, rfl, rfl, ⟨rfl, running_base_length 7#16, by decide, by decide, by decide, by decide⟩,
    rfl, rfl, rfl⟩
theorem witness_DecodeEnds : (running (payload 5)).Inv ∧ (running (payload 5)).state = .active ∧
    (running (payload 5)).streamEnded = true ∧ (running (payload 5)).port = none := ⟨running_inv _, rfl, rfl, rfl⟩
theorem witness_OneCycleDecode :
    let s := requested 4096 (encode (.template 16#5 4096#16) ++ (payload 8192 ++ []))
    s.Inv ∧ s.state = .idle ∧ s.fault = 0#4 ∧ s.ready = true ∧ s.port = some (.write 0 2#32) ∧ (2#32).extractLsb' 0 2 = 2#2 ∧
      s.argNumCh = 1#2 ∧ s.argOffset = s.readOffset ∧ s.argNumSamples = (4096#16).setWidth 32 ∧
      s.argDestCap.toNat < 2 ^ 31 ∧ (4096#16).toNat ≤ s.argDestCap.toNat ∧ (16#5).toNat ≤ 16 ∧ 1 ≤ (4096#16).toNat ∧
      (4096#16).toNat ≤ 4096 ∧ s.stream = encode (.template 16#5 4096#16) ++ (payload 8192 ++ []) ∧
      (payload 8192).length = byteAmount (16#5).toNat (4096#16).toNat :=
  ⟨requested_inv _ _, rfl, rfl, rfl, rfl, by decide, rfl, rfl, by decide, by decide, by decide, by decide, by decide,
    by decide, rfl, (payload_length _).trans (by decide)⟩

end Sys2Proof.Tests
end

section
/-!
SUPPORT. What one step of the machine can do, said once: which of its branches ran (`StepCase`), and what the register port, a
command and a cycle header then run. Proofs about every step take their cases from here.
-/

namespace Sys2Proof.Machine

/-! ### The branches of a step -/

/-- The branches of `step`, with their guards, where it answers `t` (60_exceptions R257, 43_loop_control R190 to R195). -/
inductive StepCase (s t : State) : Prop
  /-- The access at the register port is served. -/
  | served (req : PortReq) (port : s.port = some req) (next : servePort req { s with port := none } = .next t)
  /-- An Idle core waits. -/
  | idles (port : s.port = none) (idle : s.state = .idle) (next : t = s)
  /-- The loop tests of a DECODE. -/
  | tests (port : s.port = none) (active : s.state = .active) (phase : s.phase = .blockTest) (next : t = s.blockTest)
  /-- A cycle begins in an open block. -/
  | runsCycle (port : s.port = none) (active : s.state = .active) (phase : s.phase = .cycle) (isOpen : s.blockOpen = true)
      (next : s.stepCycle = .next t)
  /-- A block whose quota is met ends. -/
  | endsBlock (port : s.port = none) (active : s.state = .active) (phase : s.phase = .cycle) (closed : s.blockOpen = false)
      (next : t = s.endBlock)
  /-- A FetchUnpack that waited goes on. -/
  | fetches (port : s.port = none) (active : s.state = .active) (phase : s.phase = .payload)
      (next : s.stepPayload = .next t)

/-- A register access the host has presented is served before anything else (log entry 8). -/
theorem step_of_port {s : State} {req : PortReq} (h : s.port = some req) :
    step s = servePort req { s with port := none } := by
  unfold step; rw [h]

/-- A step that answers a next state took one of the branches. -/
theorem stepCase_of_step {s t : State} (h : step s = .next t) : StepCase s t := by
  cases hp : s.port with
  | some req => exact .served req hp (step_of_port hp ▸ h)
  | none =>
    unfold step at h
    rw [hp] at h
    cases hs : s.state with
    | idle =>
      rw [hs] at h
      cases h
      exact .idles hp hs rfl
    | active =>
      rw [hs] at h
      cases hf : s.phase with
      | blockTest =>
        rw [hf] at h
        cases h
        exact .tests hp hs hf rfl
      | cycle =>
        rw [hf] at h
        cases ho : s.blockOpen with
        | true => exact .runsCycle hp hs hf ho (by simpa [ho] using h)
        | false => exact .endsBlock hp hs hf ho (by simpa [ho] using h.symm)
      | payload =>
        rw [hf] at h
        exact .fetches hp hs hf h

/-! ### The register port -/

/-- A read of a register (10_state R34) changes `portData` alone. -/
theorem servePort_read (a : Nat) (s : State) : servePort (.read a) s = .next { s with portData := s.readRegister a } := rfl

/-- A write to `CMD` at an Idle core runs the command (42_session_commands R170). -/
theorem servePort_command {s : State} (w : Word) (h : s.state = .idle) :
    servePort (.write 0 w) s = exec (decodeCommand w) s := by
  simp [servePort, h]

/-- A write to `CMD` at an Active core is dropped (42_session_commands R170). -/
theorem servePort_command_active {s : State} (w : Word) (h : s.state = .active) : servePort (.write 0 w) s = .next s := by
  simp [servePort, h]

/-- A write to another register than `CMD`. -/
theorem servePort_write {a : Nat} (w : Word) (s : State) (h : a ≠ 0) : servePort (.write a w) s = s.writeRegister a w :=
  if_neg h

/-- An `ARG_*` register must not be written while Active (93_implementation_defined U5). -/
theorem State.writeRegister_active {a : Nat} (w : Word) {s : State} (h : s.state = .active) (h1 : 1 ≤ a) (h4 : a ≤ 4) :
    s.writeRegister a w = .refused .argWriteWhileActive :=
  if_pos ⟨h1, h4, h⟩

/-- Read-only registers and reserved addresses ignore a write (10_state R34). -/
theorem State.writeRegister_ignored {a : Nat} (w : Word) (s : State) (h : 5 ≤ a) : s.writeRegister a w = .next s := by
  obtain ⟨k, rfl⟩ := Nat.exists_eq_add_of_le' h
  exact if_neg (by omega)

/-- A write to a register other than `CMD` writes argument registers at most. -/
theorem State.writeRegister_next {a : Nat} {w : Word} {s t : State} (h : s.writeRegister a w = .next t) :
    ∃ offset numSamples numCh destCap, t = { s with
      argOffset := offset, argNumSamples := numSamples, argNumCh := numCh, argDestCap := destCap } := by
  unfold State.writeRegister at h
  split at h
  · cases h
  · split at h <;> cases h <;> exact ⟨_, _, _, _, rfl⟩

/-! ### What the decoders select -/

/-- What a command leaves (42_session_commands R171 to R174). -/
inductive CommandCase (s t : State) : Prop
  | resets (next : t = s.release.clearSession)
  | setsUp (next : t = s.allocate.clearSession)
  | starts (accepted : s.entryError = none) (next : t = s.startDecode)
  | refuses (e : ErrorCode) (next : t = s.refuseEntry e)

/-- The entry of DECODE (42_session_commands R174). -/
theorem commandCase_of_execDecode {s t : State} (h : execDecode s = .next t) : CommandCase s t := by
  unfold execDecode at h
  cases he : s.entryError with
  | none => rw [he] at h; cases h; exact .starts he rfl
  | some e => rw [he] at h; cases h; exact .refuses e rfl

/-- A word written to `CMD` runs one of the four command codes (30_encoding R105). -/
theorem commandCase_of_exec {w : Word} {s t : State} (h : exec (decodeCommand w) s = .next t) : CommandCase s t := by
  unfold decodeCommand at h
  split at h
  · cases h; exact .resets rfl
  · cases h; exact .setsUp rfl
  · exact commandCase_of_execDecode h
  · cases h; exact .refuses _ rfl

/-- The count of a header that has one is at least 1 (43_loop_control R194 step 4). -/
theorem one_le_of_literalCount {n : BitVec 16} {c : Nat} (h : literalCount n = some c) : 1 ≤ c := by
  obtain ⟨h1, -, rfl⟩ := literalCount_eq_some.1 h
  exact h1

theorem one_le_of_log2Count {k : BitVec 8} {c : Nat} (h : log2Count k = some c) : 1 ≤ c := by
  obtain ⟨-, rfl⟩ := log2Count_eq_some.1 h
  exact Nat.one_le_two_pow

/-- Every header selects a cycle: one run of `runCycle`, whose count, where it is legal, is at least 1 (30_encoding R95). -/
theorem exec_decodeHeader (info : Byte) (num : BitVec 16) :
    ∃ (sub : SubStream) (rateFull rateErr : BitVec 5) (count : Option Nat), (∀ n, count = some n → 1 ≤ n) ∧
      ∀ s : State, exec (decodeHeader info num) s = s.runCycle sub rateFull rateErr count := by
  unfold decodeHeader
  split
  · split
    · exact ⟨.template, _, _, _, fun _ => one_le_of_literalCount, fun _ => rfl⟩
    · exact ⟨.delta, _, _, _, fun _ => one_le_of_literalCount, fun _ => rfl⟩
  all_goals exact ⟨.anchors, _, _, _, fun _ => one_le_of_log2Count, fun _ => rfl⟩

/-- A FetchUnpack that goes on is the one of the cycles (41_bitrate_unpack R140). -/
theorem State.stepPayload_eq (s : State) :
    s.stepPayload = s.fetchUnpack (selectForBitRate s.job.rate) State.completeSub :=
  congrArg (fun unpacker => s.fetchUnpack unpacker State.completeSub) (funext (exec_decodeRate s.job.rate))

end Sys2Proof.Machine
end


section
/-!
SUPPORT. The register port access by access, the reset input, and the state right after reset.
-/

namespace Sys2Proof.Machine

open Sys2Proof.Claims

/-- Settles O8: the access at the port is served first, and an Idle core runs what is written to `CMD`. -/
theorem stepRunsCommandWord : Obligations.StepRunsCommandWord := by
  intro s w idle port
  rw [step_of_port port]
  exact servePort_command w idle

/-! ### The values of the registers -/

/-- The write-only registers and the reserved addresses read 0 (10_state R34). -/
theorem State.readRegister_eq_zero {a : Nat} (s : State) (h : a < 5 ∨ 11 ≤ a) : s.readRegister a = 0#32 := by
  rcases h with low | high
  · interval_cases a <;> rfl
  · obtain ⟨k, rfl⟩ := Nat.exists_eq_add_of_le' high
    rfl

/-- `STATUS` bit by bit (10_state R34). -/
theorem State.statusWord_getLsbD (s : State) (i : Nat) :
    s.statusWord.getLsbD i =
      if i = 0 then decide (s.state = .active)
      else if i = 1 then s.ready
      else if i < 4 then false
      else if i < 8 then s.fault.getLsbD (i - 4)
      else if i < 12 then s.status.getLsbD (i - 8)
      else false := by
  have stateBit : s.state.bit.getLsbD 0 = decide (s.state = .active) := by cases s.state <;> rfl
  unfold State.statusWord
  simp only [BitVec.getLsbD_append, BitVec.getLsbD_ofBool, BitVec.getLsbD_zero]
  grind

theorem State.statusWord_status (s : State) : s.statusWord.extractLsb' 8 4 = s.status := by
  ext i hi
  simp only [BitVec.getElem_extractLsb', State.statusWord_getLsbD]
  grind

theorem State.statusWord_fault (s : State) : s.statusWord.extractLsb' 4 4 = s.fault := by
  ext i hi
  simp only [BitVec.getElem_extractLsb', State.statusWord_getLsbD]
  grind

/-- The bits of `STATUS` outside its fields are 0: bits 2, 3 and 12 up (10_state R34). -/
theorem State.statusWord_unused (s : State) : s.statusWord &&& 0xFFFFF00C#32 = 0#32 := by
  have mask : ∀ i < 32, (0xFFFFF00C#32).getLsbD i = decide (i = 2 ∨ i = 3 ∨ 12 ≤ i) := by decide
  ext i hi
  rw [← BitVec.getLsbD_eq_getElem, BitVec.getLsbD_and, State.statusWord_getLsbD, mask i hi]
  grind

/-- `STATUS` of an Idle core without buffers, result or fault. -/
theorem State.statusWord_eq_zero {s : State} (state : s.state = .idle) (ready : s.ready = false) (status : s.status = 0#4)
    (fault : s.fault = 0#4) : s.statusWord = 0#32 := by
  unfold State.statusWord
  rw [state, ready, status, fault]
  rfl

/-- `PERF` reads 0 where the instrumentation is off (60_exceptions R259). -/
theorem State.perfWord_of_off {s : State} (h : s.perfEnable = false) : s.perfWord = 0#32 := by
  simp [State.perfWord, h]

/-- `PERF` reads 0 where the history is empty (60_exceptions R259). -/
theorem State.perfWord_of_nil {s : State} (h : s.perfHist = []) : s.perfWord = 0#32 := by
  unfold State.perfWord
  rw [h, ite_self]

/-- Settles O43: the answer is `readRegister` of the state, address by address. -/
theorem registerReads : Obligations.RegisterReads := by
  intro s a port
  refine ⟨s.readRegister a, step_of_port port, s.readRegister_eq_zero, ?_, ?_, ?_, ?_, ?_, ?_⟩
  · rintro rfl
    exact ⟨s.statusWord_status, s.statusWord_fault, s.statusWord_getLsbD 1, s.statusWord_getLsbD 0, s.statusWord_unused⟩
  · rintro rfl
    exact cursorWord_eq s.produced
  · rintro rfl
    exact cursorWord_eq s.readOffset
  · rintro rfl
    exact cursorWord_eq s.readIndex
  · rintro rfl
    exact cursorWord_eq s.indexInBlock
  · rintro rfl off
    exact State.perfWord_of_off off

/-! ### Writes -/

/-- A step that serves a write to a register other than `CMD`. -/
theorem step_of_write {s : State} {a : Nat} {w : Word} (port : s.port = some (.write a w)) (h : a ≠ 0) :
    step s = { s with port := none }.writeRegister a w := by
  rw [step_of_port port, servePort_write w _ h]

/-- While Idle an `ARG_*` register takes the word that is written, `ARG_NUMCH` its low two bits (10_state R34). -/
theorem State.writeRegister_idle {s : State} (w : Word) (h : s.state = .idle) :
    s.writeRegister 1 w = .next { s with argOffset := w } ∧ s.writeRegister 2 w = .next { s with argNumSamples := w } ∧
      s.writeRegister 3 w = .next { s with argNumCh := w.setWidth 2 } ∧
      s.writeRegister 4 w = .next { s with argDestCap := w } := by
  rw [BitVec.setWidth_eq_extractLsb' (by decide)]
  simp [State.writeRegister, h]

/-- Settles O44: the write that the step serves is `writeRegister`, address by address. -/
theorem registerWrites : Obligations.RegisterWrites := by
  intro s a w port
  have argWrites (idle : s.state = .idle) := State.writeRegister_idle (s := { s with port := none }) w idle
  refine ⟨?_, ?_, ?_, ?_, ?_, ?_⟩
  · rintro idle rfl
    obtain ⟨offset, -, -, -⟩ := argWrites idle
    exact (step_of_write port (by decide)).trans offset
  · rintro idle rfl
    obtain ⟨-, numSamples, -, -⟩ := argWrites idle
    exact (step_of_write port (by decide)).trans numSamples
  · rintro idle rfl
    obtain ⟨-, -, numCh, -⟩ := argWrites idle
    exact (step_of_write port (by decide)).trans numCh
  · rintro idle rfl
    obtain ⟨-, -, -, destCap⟩ := argWrites idle
    exact (step_of_write port (by decide)).trans destCap
  · intro active low high
    rw [step_of_write port (by omega)]
    exact State.writeRegister_active w active low high
  · intro high
    rw [step_of_write port (by omega)]
    exact State.writeRegister_ignored w _ high

/-! ### Reset -/

/-- The reset input gives the power-on column (10_state R39). -/
theorem powerOnColumn_powerOn (s : State) : PowerOnColumn s.powerOn where
  state := rfl
  ready := rfl
  cursors := ⟨rfl, rfl, rfl, rfl⟩
  request := ⟨rfl, rfl, rfl, rfl⟩
  result := ⟨rfl, rfl, rfl⟩
  args := ⟨rfl, rfl, rfl, rfl⟩
  perf := ⟨rfl, rfl⟩
  registers := fun addr => by
    unfold State.readRegister
    split
    case h_1 => exact State.statusWord_eq_zero rfl rfl rfl rfl
    case h_6 => exact State.perfWord_of_nil rfl
    all_goals rfl

/-- Settles O48: the state after reset is the one the reset input gives on it. -/
theorem powerOnState : Obligations.PowerOnState :=
  ⟨powerOnColumn_powerOn State.reset,
    fun s => ⟨s.powerOn, rfl, powerOnColumn_powerOn s, rfl, rfl, rfl, rfl, rfl, rfl⟩⟩

/-- Settles O49: every clause reads a reset value. -/
theorem resetSatisfiesInvariant : Obligations.ResetSatisfiesInvariant where
  buffers := ⟨Bool.noConfusion, fun _ => ⟨rfl, rfl, rfl⟩⟩
  perf := ⟨fun _ => ⟨rfl, rfl⟩, Nat.zero_le _⟩
  dst0 := State.reset_dst_wf.1
  dst1 := State.reset_dst_wf.2
  status := Nat.zero_le _
  fault := .inl rfl
  cursor := Nat.zero_le _
  quota := Nat.zero_le _
  idle := fun _ => rfl
  active := RunState.noConfusion

end Sys2Proof.Machine
end

section
/-!
SUPPORT. The invariant (Safety.lean), operation by operation, and every step: each branch of `StepCase` keeps it.
-/

namespace Sys2Proof.Machine

/-! ### Updates the invariant does not see -/

/-- The part of the state the invariant speaks of: every other field is blanked. -/
def State.invPart (s : State) : State :=
  { s with
    readOffset := 0, hdrInfo := 0, hdrNum := 0, produced := 0, argOffset := 0, argNumSamples := 0, argNumCh := 0
    argDestCap := 0, stream := [], spos := 0, streamEnded := false, port := none, portData := 0, draws := 0 }

/-- The invariant looks at `invPart` alone. -/
theorem State.inv_invPart {s : State} : s.invPart.Inv ↔ s.Inv := by
  constructor <;> exact fun h => { h with
    buffers := ⟨h.buffers.allocated, h.buffers.released⟩
    perf := ⟨h.perf.off, h.perf.depth⟩
    active := fun e => { h.active e with } }

/-- States that agree where the invariant looks satisfy it together. -/
theorem State.Inv.congr {s t : State} (h : s.Inv) (e : t.invPart = s.invPart) : t.Inv :=
  State.inv_invPart.1 (e ▸ State.inv_invPart.2 h)

/-! ### The buffers -/

/-- Writes that keep the lengths of the buffers keep the invariant. -/
theorem State.Inv.setBuffers {s : State} (h : s.Inv) {base work : List Sample} {stage : List Byte}
    (hb : base.length = s.base.length) (hw : work.length = s.work.length) (hs : stage.length = s.stage.length) :
    { s with base := base, work := work, stage := stage }.Inv :=
  { h with
    buffers :=
      { allocated := fun r => by simpa [hb, hw, hs] using h.buffers.allocated r
        released := fun r => by
          obtain ⟨eb, ew, es⟩ := h.buffers.released r
          rw [eb] at hb; rw [ew] at hw; rw [es] at hs
          exact ⟨List.length_eq_zero_iff.1 hb, List.length_eq_zero_iff.1 hw, List.length_eq_zero_iff.1 hs⟩ }
    perf := ⟨h.perf.off, h.perf.depth⟩
    active := fun e => { h.active e with } }

/-! ### The end of a command -/

/-- The clauses of the invariant that hold at every point of a step, whether or not the command still runs. -/
structure State.InRange (s : State) : Prop where
  buffers : s.BuffersOk
  perf : s.PerfOk
  dst0 : s.dst0.wf = true
  dst1 : s.dst1.wf = true
  status : s.status.toNat ≤ 8
  fault : s.fault = 0#4 ∨ s.fault = 3#4 ∨ s.fault = 4#4 ∨ s.fault = 5#4
  cursor : s.indexInBlock.toNat ≤ Config.block
  quota : s.numTodo.toNat ≤ Config.block

theorem State.Inv.inRange {s : State} (h : s.Inv) : s.InRange := { h with }

/-- An Idle core at the head of the loop satisfies the invariant as soon as its registers are in range. -/
theorem State.InRange.inv_of_idle {s : State} (h : s.InRange) (hs : s.state = .idle) (hp : s.phase = .blockTest) : s.Inv :=
  { h with
    idle := fun _ => hp
    active := fun e => RunState.noConfusion (hs.symm.trans e) }

/-- The history never grows beyond its depth (60_exceptions R258). -/
theorem pushThroughput_length_le {hist : List Word} (t : Word) (h : hist.length ≤ Config.histDepth) :
    (pushThroughput hist t).length ≤ Config.histDepth := by
  have positive : 1 ≤ Config.histDepth := Nat.le_add_left 1 _
  rw [pushThroughput_length]
  split <;> omega

/-- The recording keeps the bookkeeping (60_exceptions R258). -/
theorem State.PerfOk.recordThroughput {s : State} (h : s.PerfOk) : s.recordThroughput.PerfOk where
  off := fun e => by
    rw [State.recordThroughput_perfEnable] at e
    simpa [e] using h.off e
  depth := by
    rw [State.recordThroughput_perfHist]
    split
    · exact pushThroughput_length_le _ h.depth
    · exact h.depth

/-- The return of a DECODE leaves an Idle core of the invariant (43_loop_control R197). -/
theorem State.InRange.returnToHost {s : State} (h : s.InRange) : s.returnToHost.Inv :=
  State.InRange.inv_of_idle
    { h with
      buffers := ⟨h.buffers.allocated, h.buffers.released⟩
      perf := ⟨h.perf.recordThroughput.off, h.perf.recordThroughput.depth⟩ }
    rfl rfl

theorem State.InRange.finishBlock {s : State} (h : s.InRange) : s.finishBlock.InRange :=
  { h with
    buffers := ⟨h.buffers.allocated, h.buffers.released⟩
    perf := ⟨h.perf.off, h.perf.depth⟩ }

/-- Codes 9 to 15 are never produced (60_exceptions R240). -/
theorem ErrorCode.code_toNat_le (e : ErrorCode) : e.code.toNat ≤ 8 := by cases e <;> decide

/-- The codes that latch `fault` (60_exceptions R250). -/
theorem ErrorCode.code_of_structural {e : ErrorCode} (h : e.structural = true) :
    e.code = 3#4 ∨ e.code = 4#4 ∨ e.code = 5#4 := by
  revert h; cases e <;> decide

theorem State.InRange.setError {s : State} (h : s.InRange) (e : ErrorCode) : (s.setError e).InRange :=
  { h with
    buffers := ⟨h.buffers.allocated, h.buffers.released⟩
    perf := ⟨h.perf.off, h.perf.depth⟩
    status := e.code_toNat_le
    fault := by
      rw [State.setError_fault]
      split
      next latched => exact .inr (ErrorCode.code_of_structural latched.1)
      next => exact h.fault }

/-- Every abort leaves an Idle core of the invariant (60_exceptions R250). -/
theorem State.InRange.abort {s : State} (h : s.InRange) (e : ErrorCode) : (s.abort e).Inv :=
  (h.setError e).finishBlock.returnToHost

/-! ### The commands -/

/-- An entry that is refused (60_exceptions R251). -/
theorem State.Inv.refuseEntry {s : State} (h : s.Inv) (hs : s.state = .idle) (e : ErrorCode) : (s.refuseEntry e).Inv :=
  State.InRange.inv_of_idle
    { h.inRange with
      buffers := ⟨h.buffers.allocated, h.buffers.released⟩
      perf := ⟨h.perf.off, h.perf.depth⟩
      status := e.code_toNat_le }
    hs (h.idle hs)

/-- SETUP and RESET leave registers in range whatever they make of the buffers (42_session_commands R172, R173). -/
theorem State.inRange_clearSession {s : State} (hb : s.BuffersOk) (h0 : s.dst0.wf = true) (h1 : s.dst1.wf = true) :
    s.clearSession.InRange where
  buffers := ⟨hb.allocated, hb.released⟩
  perf := ⟨fun _ => ⟨rfl, rfl⟩, Nat.zero_le _⟩
  dst0 := h0
  dst1 := h1
  status := Nat.zero_le _
  fault := .inl rfl
  cursor := Nat.zero_le _
  quota := Nat.zero_le _

theorem State.buffersOk_release (s : State) : s.release.BuffersOk :=
  ⟨Bool.noConfusion, fun _ => ⟨rfl, rfl, rfl⟩⟩

theorem State.buffersOk_allocate (s : State) : s.allocate.BuffersOk :=
  ⟨fun _ => ⟨List.length_replicate, List.length_replicate, freeStage_length _ _ _⟩, Bool.noConfusion⟩

/-- The entry checks of DECODE establish what its loop relies on (42_session_commands R174). -/
theorem State.Inv.startDecode {s : State} (h : s.Inv) (accepted : s.entryError = none) : s.startDecode.Inv := by
  obtain ⟨noFault, ready, channels, capacity, request, -⟩ := State.entryError_eq_none.1 accepted
  exact { h.inRange with
    buffers := ⟨h.buffers.allocated, h.buffers.released⟩
    perf := ⟨h.perf.off, h.perf.depth⟩
    status := Nat.zero_le _
    cursor := Nat.zero_le _
    idle := fun _ => rfl
    active := fun _ =>
      { noFault := noFault
        ready := ready
        statusOk := rfl
        channels := channels
        capacity := capacity
        request := request
        channel := by rcases channels with e | e <;> simp [e]
        produced := Nat.zero_le _
        block := fun e => absurd rfl e
        cycle := Phase.noConfusion } }

/-- Every command keeps the invariant. -/
theorem State.Inv.command {s t : State} (h : s.Inv) (hs : s.state = .idle) (hc : CommandCase s t) : t.Inv := by
  cases hc with
  | resets next =>
    exact next ▸ (State.inRange_clearSession s.buffersOk_release h.dst0 h.dst1).inv_of_idle hs (h.idle hs)
  | setsUp next =>
    exact next ▸ (State.inRange_clearSession s.buffersOk_allocate h.dst0 h.dst1).inv_of_idle hs (h.idle hs)
  | starts accepted next => exact next ▸ h.startDecode accepted
  | refuses e next => exact next ▸ h.refuseEntry hs e

/-- Serving a register access keeps the invariant. -/
theorem State.Inv.servePort {req : PortReq} {s t : State} (h : s.Inv) (e : servePort req s = .next t) : t.Inv := by
  cases req with
  | read a => cases e; exact h.congr rfl
  | write a w =>
    rcases eq_or_ne a 0 with rfl | ha
    · cases hs : s.state with
      | idle => exact h.command hs (commandCase_of_exec (servePort_command w hs ▸ e))
      | active =>
        rw [servePort_command_active w hs] at e
        cases e
        exact h
    · obtain ⟨_, _, _, _, rfl⟩ := State.writeRegister_next (servePort_write w s ha ▸ e)
      exact h.congr rfl

/-! ### The loop controller -/

/-- A count that a block can hold fits a cursor. -/
theorem cursor_toNat_ofNat_of_le_block {n : Nat} (h : n ≤ Config.block) : (BitVec.ofNat Config.cntW n).toNat = n := by
  rw [cursor_toNat_ofNat]
  exact Nat.mod_eq_of_lt (by unfold Config.block at h; omega)

/-- The quota of a block that begins is what is left of the request, and a quota of zero ends the command
(43_loop_control R193). -/
theorem State.Inv.enterBlock {s : State} (h : s.Inv) (hs : s.state = .active) : s.enterBlock.Inv := by
  have quota_le : s.quota ≤ Config.block := min_le_right _ _
  have quota_room : s.quota ≤ s.reqSamples.toNat - s.readIndex.toNat := min_le_left _ _
  have produced := (h.active hs).produced
  have numTodo := cursor_toNat_ofNat_of_le_block quota_le
  have room : s.readIndex.toNat + s.quota ≤ s.reqSamples.toNat := by omega
  unfold State.enterBlock
  dsimp only
  split
  · refine State.InRange.returnToHost { h.inRange with
      buffers := ⟨h.buffers.allocated, h.buffers.released⟩
      perf := ⟨h.perf.off, h.perf.depth⟩
      cursor := Nat.zero_le _
      quota := ?_ }
    exact numTodo.trans_le quota_le
  next nonzero =>
    have positive : 1 ≤ s.quota := by
      rw [← numTodo]
      exact Nat.one_le_iff_ne_zero.2 fun e => nonzero (BitVec.eq_of_toNat_eq e)
    exact { h.inRange with
      buffers := ⟨h.buffers.allocated, h.buffers.released⟩
      perf := ⟨h.perf.off, h.perf.depth⟩
      cursor := Nat.zero_le _
      quota := numTodo.trans_le quota_le
      idle := fun e => RunState.noConfusion (hs.symm.trans e)
      active := fun _ => { h.active hs with
        block := fun _ => ⟨numTodo.symm ▸ room, numTodo.symm ▸ positive, Nat.zero_le _⟩
        cycle := Phase.noConfusion } }

/-- The loop tests keep the invariant (43_loop_control R190). -/
theorem State.Inv.blockTest {s : State} (h : s.Inv) (hs : s.state = .active) : s.blockTest.Inv := by
  unfold State.blockTest
  split
  · exact h.inRange.returnToHost
  · split
    · exact h
    · exact (h.inRange.setError _).returnToHost
    · exact h.enterBlock hs

/-- The end of a block counts its samples once, after the last channel (43_loop_control R195). -/
theorem State.Inv.endBlock {s : State} (h : s.Inv) (hs : s.state = .active) (hp : s.phase = .cycle) :
    s.endBlock.Inv := by
  have ok := h.active hs
  have capacity := ok.capacity
  have request := ok.request
  have produced := ok.produced
  obtain ⟨room, -, cursor⟩ := ok.block (by rw [hp]; decide)
  unfold Config.destCapLimit at capacity
  exact { h.inRange.finishBlock with
    buffers := ⟨h.buffers.allocated, h.buffers.released⟩
    perf := ⟨h.perf.off, h.perf.depth⟩
    idle := fun _ => rfl
    active := fun _ => { ok with
      channel := by
        have channel := ok.channel
        simp only [State.endBlock_chan, State.endBlock_numCh]
        rcases ok.channels with e | e
        · simpa [e] using channel
        · rw [e, if_pos rfl]
          exact (1#1 - s.chan).isLt
      produced := by
        simp only [State.endBlock_readIndex, State.finishBlock_readIndex, State.endBlock_reqSamples]
        split
        · rw [cursor_toNat_add]; omega
        · exact produced
      block := fun e => absurd rfl e
      cycle := Phase.noConfusion } }

/-! ### A cycle -/

/-- A core inside a FetchUnpack of a cycle that passed validation. -/
structure State.InPayload (s : State) : Prop where
  inv : s.Inv
  active : s.state = .active
  phase : s.phase = .payload

/-- A FetchUnpack of a valid cycle begins inside a block (44_reconstruct R210). -/
theorem State.Inv.startJob {s : State} {j : Job} (h : s.Inv) (hs : s.state = .active) (hp : s.phase ≠ .blockTest)
    (full : j.rateFull.toNat ≤ Config.maxRate) (err : j.rateErr.toNat ≤ Config.maxRate) (positive : 1 ≤ j.n)
    (fits : s.indexInBlock.toNat + j.n ≤ s.numTodo.toNat) : (s.startJob j).InPayload where
  inv := { h with
    buffers := ⟨h.buffers.allocated, h.buffers.released⟩
    perf := ⟨h.perf.off, h.perf.depth⟩
    idle := fun idle => RunState.noConfusion (hs.symm.trans idle)
    active := fun _ => { h.active hs with
      block := fun _ => (h.active hs).block hp
      cycle := fun _ => ⟨full, err, positive, fits⟩ } }
  active := hs
  phase := rfl

section InPayload
variable {s : State} (h : s.InPayload)
include h

theorem State.InPayload.activeOk : s.ActiveOk := h.inv.active h.active

/-- The rate of the run in progress is legal. -/
theorem State.InPayload.rate_le : s.job.rate.toNat ≤ Config.maxRate := by
  obtain ⟨full, err, -, -⟩ := h.activeOk.cycle h.phase
  unfold Job.rate
  cases s.job.sub <;> assumption

/-- The samples of a cycle fit a block. -/
theorem State.InPayload.n_le : s.job.n ≤ Config.block := by
  obtain ⟨-, -, -, room⟩ := h.activeOk.cycle h.phase
  have quota := h.inv.quota
  omega

theorem State.InPayload.count_le : s.job.count ≤ Config.block := by
  have n_le := h.n_le
  have anchors : numAnchors s.job.n ≤ Config.block := by
    unfold numAnchors Config.anchorStride Config.block at *; omega
  unfold Job.count
  cases s.job.sub <;> assumption

/-- The payload of a run fits `stage` (41_bitrate_unpack R141, D35). -/
theorem State.InPayload.byteAmount_le : byteAmount s.job.rate.toNat s.job.count ≤ Config.stageBytes := by
  have bits : s.job.rate.toNat * s.job.count ≤ Config.maxRate * Config.block := Nat.mul_le_mul h.rate_le h.count_le
  unfold byteAmount Config.stageBytes
  unfold Config.maxRate Config.block at bits
  omega

theorem State.InPayload.lengths :
    s.base.length = Config.block ∧ s.work.length = Config.block ∧ s.stage.length = Config.stageBytes :=
  h.inv.buffers.allocated h.activeOk.ready

/-- A stream read (20_memory R63). -/
theorem State.InPayload.consume (m : Nat) : (s.consume m).InPayload := ⟨h.inv.congr rfl, h.active, h.phase⟩

theorem State.InPayload.setStage {bytes : List Byte} (fits : bytes.length ≤ Config.stageBytes) :
    (s.setStage bytes).InPayload := by
  obtain ⟨-, -, stage⟩ := h.lengths
  exact ⟨h.inv.setBuffers rfl rfl (overwrite_length_of_le (stage.symm ▸ fits)), h.active, h.phase⟩

theorem State.InPayload.setBase {vals : List Sample} (fits : vals.length ≤ Config.block) : (s.setBase vals).InPayload := by
  obtain ⟨base, -, -⟩ := h.lengths
  exact ⟨h.inv.setBuffers (overwrite_length_of_le (base.symm ▸ fits)) rfl rfl, h.active, h.phase⟩

theorem State.InPayload.setWork {vals : List Sample} (fits : vals.length ≤ Config.block) : (s.setWork vals).InPayload := by
  obtain ⟨-, work, -⟩ := h.lengths
  exact ⟨h.inv.setBuffers rfl (overwrite_length_of_le (work.symm ▸ fits)) rfl, h.active, h.phase⟩

/-- The unpacker writes its target and nothing else (41_bitrate_unpack R142). -/
theorem State.InPayload.unpack {r : Nat} {t : State} (e : s.unpack r = .next t) : t.InPayload := by
  have fits : (s.unpacked r).length ≤ Config.block := (s.unpacked_length r).trans_le h.count_le
  obtain ⟨-, ⟨-, rfl⟩ | ⟨-, rfl⟩⟩ := State.unpack_eq_next.1 e
  · exact h.setBase fits
  · exact h.setWork fits

/-- A FetchUnpack waits, aborts, or hands an unpacked run to the rest of the cycle (44_reconstruct R210). -/
theorem State.InPayload.fetchUnpack {rate : BitVec 5} {k : State → Result} {t : State} (legal : rate.toNat ≤ Config.maxRate)
    (rest : ∀ u : State, u.InPayload → k u = .next t → t.Inv)
    (e : s.fetchUnpack (selectForBitRate rate) k = .next t) : t.Inv := by
  obtain ⟨-, run⟩ | ⟨-, -, short⟩ | ⟨-, -, waits⟩ :=
    State.fetchUnpack_cases (unpacker := selectForBitRate rate) (k := k) h.rate_le
  · rw [run, selectForBitRate_of_legal legal, andThen_eq_next] at e
    obtain ⟨u, unpacked, done⟩ := e
    have staged := (h.consume (byteAmount s.job.rate.toNat s.job.count)).setStage
      ((List.length_take_le _ s.stream).trans h.byteAmount_le)
    exact rest u (staged.unpack unpacked) done
  · rw [short] at e
    cases e
    exact (h.consume _).inv.inRange.abort _
  · rw [waits] at e
    cases e
    exact h.inv

/-- The write of a cycle's samples moves the cursor inside the quota (20_memory R67). -/
theorem State.InPayload.convertRun {samples : List Sample} {t : State} (e : s.convertRun s.job.n samples = .next t) :
    t.Inv := by
  obtain ⟨-, rfl⟩ := State.convertRun_eq_next.1 e
  have ok := h.activeOk
  obtain ⟨room, positive, -⟩ := ok.block (by rw [h.phase]; decide)
  obtain ⟨-, -, -, fits⟩ := ok.cycle h.phase
  have quota := h.inv.quota
  have cursor : (s.indexInBlock + BitVec.ofNat 32 s.job.n).toNat = s.indexInBlock.toNat + s.job.n := by
    rw [cursor_toNat_add, cursor_toNat_ofNat_of_le_block h.n_le]
    unfold Config.block at quota
    omega
  exact { h.inv.inRange with
    buffers := ⟨h.inv.buffers.allocated, h.inv.buffers.released⟩
    perf := ⟨h.inv.perf.off, h.inv.perf.depth⟩
    dst0 := by
      show DstMem.wf (if _ then _ else _) = true
      split
      · exact DstMem.wf_writeRun _ _ _ h.inv.dst0
      · exact h.inv.dst0
    dst1 := by
      show DstMem.wf (if _ then _ else _) = true
      split
      · exact h.inv.dst1
      · exact DstMem.wf_writeRun _ _ _ h.inv.dst1
    cursor := cursor.trans_le (fits.trans quota)
    idle := fun idle => RunState.noConfusion (h.active.symm.trans idle)
    active := fun _ => { ok with
      block := fun _ => ⟨room, positive, cursor.trans_le fits⟩
      cycle := Phase.noConfusion } }

theorem State.InPayload.convertWrite {t : State} (e : s.convertWrite s.job.n = .next t) : t.Inv := h.convertRun e

/-- The sums of a delta cycle or of an error sub-stream become the baseline, and are written (44_reconstruct R213, R216). -/
theorem State.InPayload.addAndWrite {t : State}
    (e : (s.setBase (addRun (s.base.take s.job.n) (s.work.take s.job.n))).convertWrite s.job.n = .next t) : t.Inv :=
  have fits : (addRun (s.base.take s.job.n) (s.work.take s.job.n)).length ≤ Config.block := by
    rw [addRun_length]
    exact (min_le_left _ _).trans ((List.length_take_le _ _).trans h.n_le)
  (h.setBase fits).convertWrite e

/-- The error sub-stream of a diff cycle (44_reconstruct R216). -/
theorem State.InPayload.startError {t : State} (e : s.startError = .next t) : t.Inv := by
  obtain ⟨full, err, positive, fits⟩ := h.activeOk.cycle h.phase
  have started : (s.startJob { s.job with sub := .error }).InPayload :=
    h.inv.startJob h.active (by rw [h.phase]; decide) full err positive fits
  exact started.fetchUnpack err (fun u inPayload done => inPayload.addAndWrite done) e

/-- The rest of a cycle, after whichever run was unpacked. -/
theorem State.InPayload.completeSub {t : State} (e : s.completeSub = .next t) : t.Inv := by
  cases sub : s.job.sub with
  | template => exact h.convertWrite (State.completeSub_template sub ▸ e)
  | delta => exact h.addAndWrite (State.completeSub_delta sub ▸ e)
  | anchors =>
    have held : (s.setBase (holdAnchors (s.work.take (numAnchors s.job.n)) s.job.n)).InPayload :=
      h.setBase ((holdAnchors_length _ _).trans_le h.n_le)
    rw [State.completeSub_anchors sub] at e
    split at e
    · exact held.convertWrite e
    · exact held.startError e
  | error => exact h.addAndWrite (State.completeSub_error sub ▸ e)

end InPayload

/-- A cycle that validation rejects aborts, and one that it passes runs (43_loop_control R194). -/
theorem State.Inv.runCycle {sub : SubStream} {rateFull rateErr : BitVec 5} {count : Option Nat} {s t : State} (h : s.Inv)
    (hs : s.state = .active) (hp : s.phase = .cycle) (positive : ∀ n, count = some n → 1 ≤ n)
    (e : s.runCycle sub rateFull rateErr count = .next t) : t.Inv := by
  cases he : s.headerError rateFull rateErr count with
  | some code =>
    rw [State.runCycle_of_error he] at e
    cases e
    exact h.inRange.abort code
  | none =>
    obtain ⟨full, err, n, rfl, fits⟩ := State.headerError_eq_none.1 he
    rw [State.runCycle_of_legal he] at e
    have started : (s.startJob ⟨sub, rateFull, rateErr, n⟩).InPayload :=
      h.startJob hs (by rw [hp]; decide) full err (positive n rfl) fits
    exact started.fetchUnpack full (fun u inPayload done => inPayload.completeSub done) e

/-- The step of a cycle: the header is read, and the cycle it selects runs (43_loop_control R194). -/
theorem State.Inv.stepCycle {s t : State} (h : s.Inv) (hs : s.state = .active) (hp : s.phase = .cycle)
    (e : s.stepCycle = .next t) : t.Inv := by
  unfold State.stepCycle at e
  obtain ⟨b0, b1, b2, rest, -, header⟩ | ⟨-, -, header⟩ | ⟨-, -, header⟩ := s.readCycleHeader_cases
  all_goals rw [header] at e
  · obtain ⟨sub, rateFull, rateErr, count, positive, run⟩ := exec_decodeHeader b0 (numByteOrder b1 b2)
    have latched : ((s.consume 3).latchHeader b0 (numByteOrder b1 b2)).Inv := h.congr rfl
    exact latched.runCycle hs hp positive ((run _).symm.trans e)
  · cases e
    have consumed : (s.consume s.stream.length).Inv := h.congr rfl
    exact consumed.inRange.abort _
  · cases e
    exact h

/-- Settles O50: each branch of a step keeps the invariant. -/
theorem stepKeepsInvariant : Obligations.StepKeepsInvariant := by
  intro s t h step
  cases stepCase_of_step step with
  | served req port next =>
    have served : { s with port := none }.Inv := h.congr rfl
    exact served.servePort next
  | idles port idle next => exact next ▸ h
  | tests port active phase next => exact next ▸ h.blockTest active
  | runsCycle port active phase isOpen next => exact h.stepCycle active phase next
  | endsBlock port active phase closed next => exact next ▸ h.endBlock active phase
  | fetches port active phase next =>
    have inPayload : s.InPayload := ⟨h, active, phase⟩
    exact inPayload.fetchUnpack inPayload.rate_le (fun u held done => held.completeSub done) (s.stepPayload_eq ▸ next)

end Sys2Proof.Machine
end

section
/-!
SUPPORT. Every step is a chain of the model's named updates (`Update`), so what each update leaves unchanged every step leaves
unchanged: the frame facts about all steps are proved from it, one case for each update.
-/

namespace Sys2Proof.Machine

open Sys2Proof.Claims Relation

/-- One named update of the state by the core. -/
inductive Update (s : State) : State → Prop
  | consume {m : Nat} (supplied : m ≤ s.stream.length) : Update s (s.consume m)
  | latchHeader (info : Byte) (num : BitVec 16) : Update s (s.latchHeader info num)
  | startJob (j : Job) : Update s (s.startJob j)
  | setBase (vals : List Sample) : Update s (s.setBase vals)
  | setWork (vals : List Sample) : Update s (s.setWork vals)
  | setStage (bytes : List Byte) : Update s (s.setStage bytes)
  | convertRun {n : Nat} {samples : List Sample} {t : State} (next : s.convertRun n samples = .next t) : Update s t
  | beginBlock (quota : Cursor) : Update s { s with indexInBlock := 0#Config.cntW, numTodo := quota }
  | enterCycles : Update s { s with phase := .cycle }
  | endBlock : Update s s.endBlock
  | setError (e : ErrorCode) : Update s (s.setError e)
  | finishBlock : Update s s.finishBlock
  | returnToHost : Update s s.returnToHost
  | refuseEntry (e : ErrorCode) : Update s (s.refuseEntry e)
  | startDecode : Update s s.startDecode
  | allocate : Update s s.allocate
  | release : Update s s.release
  | clearSession : Update s s.clearSession
  | takeAccess : Update s { s with port := none }
  | answerRead (w : Word) : Update s { s with portData := w }

/-- A chain of updates. -/
abbrev Updates : State → State → Prop := ReflTransGen Update

theorem Update.toUpdates {s t : State} (h : Update s t) : Updates s t := .single h

/-- The abort rule is three updates (60_exceptions R250). -/
theorem updates_abort (s : State) (e : ErrorCode) : Updates s (s.abort e) :=
  ((ReflTransGen.single (.setError e)).tail .finishBlock).tail .returnToHost

theorem updates_command {s t : State} (h : CommandCase s t) : Updates s t := by
  cases h with
  | resets next => exact next ▸ (Update.release.toUpdates).tail .clearSession
  | setsUp next => exact next ▸ (Update.allocate.toUpdates).tail .clearSession
  | starts _ next => exact next ▸ Update.startDecode.toUpdates
  | refuses e next => exact next ▸ (Update.refuseEntry e).toUpdates

/-- A register access is a chain of updates, but for a write to an `ARG_*` register. -/
theorem updates_servePort {req : PortReq} {s t : State} (h : servePort req s = .next t) :
    Updates s t ∨ ∃ a w, req = .write a w ∧ 1 ≤ a ∧ a ≤ 4 ∧ s.writeRegister a w = .next t := by
  cases req with
  | read a => cases h; exact .inl (Update.answerRead _).toUpdates
  | write a w =>
    rcases eq_or_ne a 0 with rfl | ha
    · left
      cases hs : s.state with
      | idle => exact updates_command (commandCase_of_exec (servePort_command w hs ▸ h))
      | active =>
        rw [servePort_command_active w hs] at h
        cases h
        exact .refl
    · rw [servePort_write w s ha] at h
      rcases le_or_gt a 4 with h4 | h5
      · exact .inr ⟨a, w, rfl, by omega, h4, h⟩
      · rw [State.writeRegister_ignored w s h5] at h
        cases h
        exact .inl .refl

theorem updates_blockTest (s : State) : Updates s s.blockTest := by
  have entered : Updates s s.enterBlock := by
    have begun := (Update.beginBlock (s := s) (BitVec.ofNat Config.cntW s.quota)).toUpdates
    unfold State.enterBlock
    dsimp only
    split
    · exact begun.tail .returnToHost
    · exact begun.tail .enterCycles
  unfold State.blockTest
  split
  · exact Update.returnToHost.toUpdates
  · split
    · exact .refl
    · exact ((Update.setError _).toUpdates).tail .returnToHost
    · exact entered

/-- A selected unpacker writes its target, or aborts at an illegal rate (41_bitrate_unpack R140). -/
theorem updates_selectForBitRate {rate : BitVec 5} {s t : State} (h : selectForBitRate rate s = .next t) : Updates s t := by
  rw [selectForBitRate_eq] at h
  split at h
  · obtain ⟨-, ⟨-, rfl⟩ | ⟨-, rfl⟩⟩ := State.unpack_eq_next.1 h
    · exact (Update.setBase _).toUpdates
    · exact (Update.setWork _).toUpdates
  · cases h
    exact updates_abort s .bitRate

/-- A FetchUnpack is a chain of updates as soon as the rest of its cycle is (44_reconstruct R210). -/
theorem updates_fetchUnpack {rate : BitVec 5} {k : State → Result} {s t : State}
    (rest : ∀ u : State, k u = .next t → Updates u t) (h : s.fetchUnpack (selectForBitRate rate) k = .next t) :
    Updates s t := by
  rcases le_or_gt s.job.rate.toNat Config.maxRate with legal | illegal
  · obtain ⟨supplied, run⟩ | ⟨-, -, short⟩ | ⟨-, -, waits⟩ :=
      State.fetchUnpack_cases (unpacker := selectForBitRate rate) (k := k) legal
    · rw [run, andThen_eq_next] at h
      obtain ⟨u, unpacked, done⟩ := h
      have staged := ((Update.consume supplied).toUpdates).tail
        (.setStage (s.stream.take (byteAmount s.job.rate.toNat s.job.count)))
      exact (staged.trans (updates_selectForBitRate unpacked)).trans (rest u done)
    · rw [short] at h
      cases h
      exact ((Update.consume le_rfl).toUpdates).trans (updates_abort _ _)
    · rw [waits] at h
      cases h
      exact .refl
  · unfold State.fetchUnpack at h
    rw [if_pos illegal] at h
    exact updates_selectForBitRate h

/-- New samples in `base`, and their write (44_reconstruct R211). -/
theorem updates_setBase_convertWrite {vals : List Sample} {n : Nat} {s t : State}
    (h : (s.setBase vals).convertWrite n = .next t) : Updates s t :=
  ((Update.setBase vals).toUpdates).tail (.convertRun h)

theorem updates_startError {s t : State} (h : s.startError = .next t) : Updates s t := by
  have fetched := updates_fetchUnpack (fun _ => updates_setBase_convertWrite) h
  exact (Update.startJob _).toUpdates.trans fetched

/-- The rest of a cycle, after whichever run was unpacked. -/
theorem updates_completeSub {s t : State} (h : s.completeSub = .next t) : Updates s t := by
  cases sub : s.job.sub with
  | template =>
    rw [State.completeSub_template sub] at h
    exact (Update.convertRun h).toUpdates
  | delta => exact updates_setBase_convertWrite (State.completeSub_delta sub ▸ h)
  | anchors =>
    rw [State.completeSub_anchors sub] at h
    split at h
    · exact updates_setBase_convertWrite h
    · exact (Update.setBase _).toUpdates.trans (updates_startError h)
  | error => exact updates_setBase_convertWrite (State.completeSub_error sub ▸ h)

theorem updates_runCycle {sub : SubStream} {rateFull rateErr : BitVec 5} {count : Option Nat} {s t : State}
    (h : s.runCycle sub rateFull rateErr count = .next t) : Updates s t := by
  unfold State.runCycle at h
  split at h
  · cases h
    exact updates_abort s _
  · exact (Update.startJob _).toUpdates.trans (updates_fetchUnpack (fun _ => updates_completeSub) h)

theorem updates_stepCycle {s t : State} (h : s.stepCycle = .next t) : Updates s t := by
  unfold State.stepCycle at h
  obtain ⟨b0, b1, b2, rest, stream, header⟩ | ⟨-, -, header⟩ | ⟨-, -, header⟩ := s.readCycleHeader_cases
  all_goals rw [header] at h
  · obtain ⟨sub, rateFull, rateErr, count, -, run⟩ := exec_decodeHeader b0 (numByteOrder b1 b2)
    have supplied : 3 ≤ s.stream.length := by rw [stream]; simp
    have latched := ((Update.consume supplied).toUpdates).tail (.latchHeader b0 (numByteOrder b1 b2))
    exact latched.trans (updates_runCycle ((run _).symm.trans h))
  · cases h
    exact ((Update.consume le_rfl).toUpdates).trans (updates_abort _ _)
  · cases h
    exact .refl

/-- Every step is a chain of updates, but for a write to an `ARG_*` register. -/
theorem updates_of_step {s t : State} (h : step s = .next t) :
    Updates s t ∨
      ∃ a w, s.port = some (.write a w) ∧ 1 ≤ a ∧ a ≤ 4 ∧ { s with port := none }.writeRegister a w = .next t := by
  cases stepCase_of_step h with
  | served req port next =>
    obtain served | ⟨a, w, rfl, h1, h4, written⟩ := updates_servePort next
    · exact .inl (Update.takeAccess.toUpdates.trans served)
    · exact .inr ⟨a, w, port, h1, h4, written⟩
  | idles _ _ next => exact .inl (next ▸ .refl)
  | tests _ _ _ next => exact .inl (next ▸ updates_blockTest s)
  | runsCycle _ _ _ _ next => exact .inl (updates_stepCycle next)
  | endsBlock _ _ _ _ next => exact .inl (next ▸ Update.endBlock.toUpdates)
  | fetches _ _ _ next =>
    exact .inl (updates_fetchUnpack (fun _ => updates_completeSub) (s.stepPayload_eq ▸ next))

/-! ### The argument registers -/

/-- No update of the core writes an `ARG_*` register (10_state R34). -/
theorem Update.sameArgs {s t : State} (h : Update s t) : sameArgs s t := by
  cases h with
  | convertRun next =>
    obtain ⟨-, rfl⟩ := State.convertRun_eq_next.1 next
    exact ⟨rfl, rfl, rfl, rfl⟩
  | _ => exact ⟨rfl, rfl, rfl, rfl⟩

theorem sameArgs_trans {s t u : State} (h : sameArgs s t) (h' : sameArgs t u) : sameArgs s u := by
  obtain ⟨offset, numSamples, numCh, destCap⟩ := h
  obtain ⟨offset', numSamples', numCh', destCap'⟩ := h'
  exact ⟨offset.trans offset', numSamples.trans numSamples', numCh.trans numCh', destCap.trans destCap'⟩

theorem Updates.sameArgs {s t : State} (h : Updates s t) : sameArgs s t := by
  induction h with
  | refl => exact ⟨rfl, rfl, rfl, rfl⟩
  | tail _ update ih => exact sameArgs_trans ih update.sameArgs

/-- Settles O45: a step is a chain of updates, none of which writes an `ARG_*` register, or it is a write to one. -/
theorem argRegistersKept : Obligations.ArgRegistersKept := by
  intro s t step noWrite
  obtain updates | ⟨a, w, port, h1, h4, -⟩ := updates_of_step step
  · exact updates.sameArgs
  · exact absurd ⟨a, w, port, h1, h4⟩ noWrite

/-! ### The stream -/

/-- From `s` to `t` the core consumed the front of the unread stream, and moved `spos` by its length (20_memory R63). -/
def ReadsFront (s t : State) : Prop :=
  ∃ used : List Byte, s.stream = used ++ t.stream ∧ t.spos = s.spos + used.length ∧ t.streamEnded = s.streamEnded

theorem ReadsFront.refl (s : State) : ReadsFront s s := ⟨[], rfl, rfl, rfl⟩

theorem ReadsFront.trans {s t u : State} (h : ReadsFront s t) (h' : ReadsFront t u) : ReadsFront s u := by
  obtain ⟨used, stream, spos, ended⟩ := h
  obtain ⟨used', stream', spos', ended'⟩ := h'
  exact ⟨used ++ used', by rw [stream, stream', List.append_assoc],
    by rw [spos', spos, List.length_append, Nat.add_assoc], ended'.trans ended⟩

theorem readsFront_consume {m : Nat} {s : State} (supplied : m ≤ s.stream.length) : ReadsFront s (s.consume m) :=
  ⟨s.stream.take m, (List.take_append_drop m s.stream).symm, by simp [supplied], rfl⟩

/-- `consume` is the only update of the stream. -/
theorem Update.readsFront {s t : State} (h : Update s t) : ReadsFront s t := by
  cases h with
  | consume supplied => exact readsFront_consume supplied
  | convertRun next =>
    obtain ⟨-, rfl⟩ := State.convertRun_eq_next.1 next
    exact .refl s
  | _ => exact .refl s

theorem Updates.readsFront {s t : State} (h : Updates s t) : ReadsFront s t := by
  induction h with
  | refl => exact .refl _
  | tail _ update ih => exact ih.trans update.readsFront

/-- Settles O53: a step is a chain of updates, each of which reads the front of the stream, or a write to an `ARG_*` register. -/
theorem streamNeverRewinds : Obligations.StreamNeverRewinds := by
  intro s t step
  obtain updates | ⟨a, w, -, -, -, written⟩ := updates_of_step step
  · exact updates.readsFront
  · obtain ⟨_, _, _, _, rfl⟩ := State.writeRegister_next written
    exact ReadsFront.refl s

end Sys2Proof.Machine
end

section
/-!
SUPPORT. The waits of the core (20_memory R64): the loop test's question to the stream, and the FetchUnpack that stands without
its bytes and goes on when they have come.
-/

namespace Sys2Proof.Machine

open Sys2Proof.Claims

/-! ### Where a step of a core without a register access stands -/

theorem step_of_idle {s : State} (port : s.port = none) (idle : s.state = .idle) : step s = .next s := by
  unfold step; rw [port, idle]

theorem step_of_blockTest {s : State} (port : s.port = none) (active : s.state = .active) (phase : s.phase = .blockTest) :
    step s = .next s.blockTest := by
  unfold step; rw [port, active, phase]

theorem step_of_cycle {s : State} (port : s.port = none) (active : s.state = .active) (phase : s.phase = .cycle) :
    step s = if s.blockOpen then s.stepCycle else .next s.endBlock := by
  unfold step; rw [port, active, phase]

theorem step_of_payload {s : State} (port : s.port = none) (active : s.state = .active) (phase : s.phase = .payload) :
    step s = s.stepPayload := by
  unfold step; rw [port, active, phase]

/-! ### `StreamAtEnd` -/

/-- A byte at the stream position answers the test, whatever the host declares (20_memory R62). -/
theorem State.streamAtEnd_of_byte {s : State} (h : 0 < s.stream.length) : s.streamAtEnd = some false := by
  have some_byte : s.stream.isEmpty = false := List.isEmpty_eq_false_iff.2 (List.length_pos_iff.1 h)
  unfold State.streamAtEnd
  rw [if_pos some_byte]

/-- Where no byte stands, the answer is the host's declaration of the end, or none yet (20_memory R62, R64). -/
theorem State.streamAtEnd_of_no_byte {s : State} (h : s.stream.length = 0) :
    s.streamAtEnd = if s.streamEnded then some true else none := by
  unfold State.streamAtEnd
  rw [List.length_eq_zero_iff.1 h]
  rfl

/-- Settles O11: three exclusive answers, by whether a byte stands and whether the end is declared. -/
theorem streamAtEndTest : Obligations.StreamAtEndTest := by
  intro s
  rcases Nat.eq_zero_or_pos s.stream.length with empty | byte
  · rw [State.streamAtEnd_of_no_byte empty, empty]
    cases s.streamEnded <;> simp
  · rw [State.streamAtEnd_of_byte byte]
    simp [byte.ne', byte]

/-! ### A run that waits, and goes on -/

/-- A FetchUnpack whose bytes are missing waits, and its step changes nothing (20_memory R64, 44_reconstruct R210). -/
theorem State.stepPayload_waits {s : State} (legal : s.job.rate.toNat ≤ Config.maxRate) (notEnded : s.streamEnded = false)
    (missing : s.stream.length < byteAmount s.job.rate.toNat s.job.count) : s.stepPayload = .next s := by
  unfold State.stepPayload
  obtain ⟨there, -⟩ | ⟨-, ended, -⟩ | ⟨-, -, waits⟩ :=
    State.fetchUnpack_cases (unpacker := exec (decodeRate s.job.rate)) (k := State.completeSub) legal
  · exact absurd there (Nat.not_le.2 missing)
  · exact absurd (notEnded.symm.trans ended) (by decide)
  · exact waits

/-- Every run but the error sub-stream has the full rate (44_reconstruct R212, R213, R216). -/
theorem Job.rate_of_ne_error {j : Job} (h : j.sub ≠ .error) : j.rate = j.rateFull := by
  unfold Job.rate
  cases sub : j.sub with
  | template | delta | anchors => rfl
  | error => exact absurd sub h

/-- A cycle that passes validation begins as a step at its first run does (43_loop_control R194, 44_reconstruct R210). -/
theorem State.runCycle_eq_stepPayload {sub : SubStream} {rateFull rateErr : BitVec 5} {n : Nat} {s : State}
    (legal : s.headerError rateFull rateErr (some n) = none) (first : sub ≠ .error) :
    s.runCycle sub rateFull rateErr (some n) = (s.startJob ⟨sub, rateFull, rateErr, n⟩).stepPayload := by
  rw [State.runCycle_of_legal legal, State.stepPayload_eq, State.startJob_job, Job.rate_of_ne_error first]

/-- An unpacker leaves the operands of the run in progress (41_bitrate_unpack R142). -/
theorem job_selectForBitRate {rate : BitVec 5} {s t : State} (h : selectForBitRate rate s = .next t) : t.job = s.job := by
  rw [selectForBitRate_eq] at h
  split at h
  · obtain ⟨-, ⟨-, rfl⟩ | ⟨-, rfl⟩⟩ := State.unpack_eq_next.1 h <;> rfl
  · cases h
    rfl

/-- What follows a FetchUnpack matters only on states with its operands. -/
theorem State.fetchUnpack_congr {rate : BitVec 5} {k k' : State → Result} {s : State}
    (h : ∀ u : State, u.job = s.job → k u = k' u) :
    s.fetchUnpack (selectForBitRate rate) k = s.fetchUnpack (selectForBitRate rate) k' := by
  unfold State.fetchUnpack
  split
  · rfl
  · obtain ⟨-, read⟩ | ⟨-, -, read⟩ | ⟨-, -, read⟩ := s.streamRead_cases (byteAmount s.job.rate.toNat s.job.count)
    all_goals rw [read]
    dsimp only
    cases unpacked : selectForBitRate rate ((s.consume _).setStage _) with
    | next u =>
      have job := job_selectForBitRate unpacked
      exact h u job
    | fault | refused => rfl

/-- The error sub-stream of a diff cycle begins as a step at it does (44_reconstruct R216). -/
theorem State.startError_eq_stepPayload (s : State) :
    s.startError = (s.startJob { s.job with sub := .error }).stepPayload := by
  rw [State.stepPayload_eq]
  refine State.fetchUnpack_congr fun u job => ?_
  have sub : u.job.sub = .error := by rw [job]; rfl
  exact (State.completeSub_error sub).symm

/-- Once the host has supplied, a core that stands at a run goes on with it (44_reconstruct R210). -/
theorem step_supplied {w : State} (port : w.port = none) (active : w.state = .active) (phase : w.phase = .payload)
    (bytes : List Byte) (ended : Bool) : step (supplied w bytes ended) = (supplied w bytes ended).stepPayload :=
  step_of_payload port active phase

/-! ### The first run of a cycle -/

/-- A cycle that fits its block passes validation (43_loop_control R194). -/
theorem headerError_of_fits {s : State} {n : Nat} {rateFull rateErr : BitVec 5} (fits : CycleFits s n)
    (full : rateFull.toNat ≤ 16) (err : rateErr.toNat ≤ 16) : s.headerError rateFull rateErr (some n) = none :=
  State.headerError_eq_none.2 ⟨full, err, n, rfl, fits.room⟩

/-- A cycle without its first run latches its operands and waits, and resumes as it would have begun (20_memory R64). -/
theorem firstRun_waits {s : State} {i : Instr} {sub : SubStream} {rateFull rateErr : BitVec 5} {n : Nat}
    (run : ∀ u : State, exec i u = u.runCycle sub rateFull rateErr (some n)) (first : sub ≠ .error)
    (active : s.state = .active) (port : s.port = none) (notEnded : s.streamEnded = false)
    (full : rateFull.toNat ≤ 16) (err : rateErr.toNat ≤ 16) (fits : CycleFits s n)
    (missing : s.stream.length < byteAmount rateFull.toNat (Job.count ⟨sub, rateFull, rateErr, n⟩)) :
    ∃ w, exec i s = .next w ∧ w = { s with job := w.job, phase := .payload } ∧ Resumes i s w := by
  have legal := headerError_of_fits fits full err
  have rate : Job.rate ⟨sub, rateFull, rateErr, n⟩ = rateFull := Job.rate_of_ne_error first
  refine ⟨s.startJob ⟨sub, rateFull, rateErr, n⟩, ?_, rfl, fun bytes ended => ?_⟩
  · rw [run, State.runCycle_eq_stepPayload legal first]
    exact State.stepPayload_waits (by rw [State.startJob_job, rate]; exact full) notEnded
      (by rw [State.startJob_job, rate]; exact missing)
  · rw [run, State.runCycle_eq_stepPayload (s := supplied s bytes ended) legal first]
    exact step_supplied (w := s.startJob _) port active rfl bytes ended

/-! ### The error sub-stream of a DIFF -/

/-- A diff cycle at its error sub-stream: the full one is consumed, unpacked into `work` and distributed into `base`
(44_reconstruct R216). -/
def State.atErrorRun (rateFull rateErr : BitVec 5) (n : Nat) (full : List Byte) (s : State) : State :=
  let staged := ((s.startJob ⟨.anchors, rateFull, rateErr, n⟩).consume full.length).setStage full
  let unpacked := staged.setWork (unpackRun rateFull.toNat (numAnchors n) full)
  (unpacked.setBase (anchorSamples rateFull.toNat n full)).startJob ⟨.error, rateFull, rateErr, n⟩

/-- With its full sub-stream there, a diff cycle comes to its error sub-stream (44_reconstruct R216). -/
theorem State.runCycle_of_full {s : State} {rateFull rateErr : BitVec 5} {n : Nat} {full rest : List Byte}
    (legalFull : rateFull.toNat ≤ 16) (legalErr : rateErr.toNat ≤ 16) (positive : 0 < rateErr.toNat) (fits : CycleFits s n)
    (stream : s.stream = full ++ rest) (length : full.length = byteAmount rateFull.toNat (numAnchors n)) :
    s.runCycle .anchors rateFull rateErr (some n) = (s.atErrorRun rateFull rateErr n full).stepPayload := by
  let u := ((s.startJob ⟨.anchors, rateFull, rateErr, n⟩).consume full.length).setStage full
  let anchors := unpackRun rateFull.toNat (numAnchors n) full
  have unpack : selectForBitRate rateFull u = .next (u.setWork anchors) := by
    have staged : u.unpacked rateFull.toNat = anchors :=
      State.unpacked_setStage (s := (s.startJob ⟨.anchors, rateFull, rateErr, n⟩).consume full.length) length
    rw [selectForBitRate_of_legal legalFull]
    exact State.unpack_eq_next.2 ⟨fits.ready, .inr ⟨SubStream.noConfusion, by rw [staged]⟩⟩
  have nonzero : (u.setWork anchors).job.rateErr ≠ 0#5 := fun e : rateErr = 0#5 => absurd positive (by rw [e]; decide)
  have work : (u.setWork anchors).work.take (numAnchors n) = anchors := by
    have taken := overwrite_take anchors u.work
    rwa [unpackRun_length] at taken
  rw [State.runCycle_of_legal (headerError_of_fits fits legalFull legalErr),
    State.fetchUnpack_of_payload (s := s.startJob ⟨.anchors, rateFull, rateErr, n⟩) legalFull stream length, unpack,
    andThen_next, State.completeSub_anchors rfl, if_neg nonzero, State.startError_eq_stepPayload]
  exact congrArg (fun held =>
    (((u.setWork anchors).setBase (holdAnchors held n)).startJob ⟨.error, rateFull, rateErr, n⟩).stepPayload) work

/-- What the host supplies after the full sub-stream is there from the start as well as later. -/
theorem supplied_atErrorRun {s : State} {rateFull rateErr : BitVec 5} {n : Nat} {full : List Byte}
    (there : full.length ≤ s.stream.length) (bytes : List Byte) (ended : Bool) :
    (supplied s bytes ended).atErrorRun rateFull rateErr n full =
      supplied (s.atErrorRun rateFull rateErr n full) bytes ended := by
  have stream : (s.stream ++ bytes).drop full.length = s.stream.drop full.length ++ bytes :=
    List.drop_append_of_le_length there
  unfold State.atErrorRun supplied State.consume
  dsimp only [State.startJob_stream]
  rw [stream]
  rfl

/-- The fields of a diff cycle at its error sub-stream, written out. -/
theorem State.atErrorRun_eq (rateFull rateErr : BitVec 5) (n : Nat) (full : List Byte) (s : State) :
    s.atErrorRun rateFull rateErr n full = { s with
      stream := s.stream.drop full.length
      spos := s.spos + full.length
      stage := full ++ s.stage.drop full.length
      work := unpackRun rateFull.toNat (numAnchors n) full ++ s.work.drop (numAnchors n)
      base := anchorSamples rateFull.toNat n full ++ s.base.drop n
      job := ⟨.error, rateFull, rateErr, n⟩
      phase := .payload } := by
  simp [State.atErrorRun, State.setBase, State.setWork, State.setStage, State.consume, State.startJob, overwrite,
    anchorSamples]

/-- The wait in the error sub-stream (44_reconstruct R216, 20_memory R64). -/
theorem errorRun_waits {s : State} {i : Instr} {rateFull rateErr : BitVec 5} {n : Nat} {full err : List Byte}
    (run : ∀ u : State, exec i u = u.runCycle .anchors rateFull rateErr (some n))
    (active : s.state = .active) (port : s.port = none) (notEnded : s.streamEnded = false)
    (legalFull : rateFull.toNat ≤ 16) (legalErr : rateErr.toNat ≤ 16) (positive : 0 < rateErr.toNat) (fits : CycleFits s n)
    (stream : s.stream = full ++ err) (length : full.length = byteAmount rateFull.toNat (numAnchors n))
    (missing : err.length < byteAmount rateErr.toNat n) :
    exec i s = .next (s.atErrorRun rateFull rateErr n full) ∧ Resumes i s (s.atErrorRun rateFull rateErr n full) := by
  have there : full.length ≤ s.stream.length := by rw [stream, List.length_append]; exact Nat.le_add_right _ _
  constructor
  · rw [run, State.runCycle_of_full legalFull legalErr positive fits stream length, State.atErrorRun_eq, stream,
      List.drop_left]
    exact State.stepPayload_waits legalErr notEnded missing
  · intro bytes ended
    have suppliedStream : (supplied s bytes ended).stream = full ++ (err ++ bytes) := by
      rw [← List.append_assoc, ← stream]; rfl
    have suppliedFits : CycleFits (supplied s bytes ended) n := { fits with }
    rw [run, State.runCycle_of_full legalFull legalErr positive suppliedFits suppliedStream length,
      supplied_atErrorRun there, State.atErrorRun_eq]
    refine step_supplied ?_ ?_ ?_ bytes ended
    exacts [port, active, rfl]

/-! ### The five rows -/

/-- Both waits of a DIFF row (44_reconstruct R216). -/
theorem diffWaits {row : BitVec 5 → BitVec 5 → BitVec 8 → Instr}
    (run : ∀ rateFull rateErr k u, exec (row rateFull rateErr k) u = u.runCycle .anchors rateFull rateErr (log2Count k)) :
    DiffWaits row := by
  intro s rateFull rateErr k active port notEnded full err legalLog2 fits
  have count : log2Count k = some (2 ^ k.toNat) := log2Count_eq_some.2 ⟨legalLog2, rfl⟩
  have run' (u : State) : exec (row rateFull rateErr k) u = u.runCycle .anchors rateFull rateErr (some (2 ^ k.toNat)) :=
    count ▸ run rateFull rateErr k u
  refine ⟨fun missing => ?_, fun _ _ stream positive length missing => ?_⟩
  · exact firstRun_waits run' SubStream.noConfusion active port notEnded full err fits missing
  · obtain ⟨waits, resumes⟩ := errorRun_waits run' active port notEnded full err positive fits stream length missing
    refine ⟨_, waits, ?_, resumes⟩
    rw [State.atErrorRun_eq, stream, List.drop_left]

/-- Settles O30: a TEMPLATE or DELTA cycle waits in its one run, a DIFF cycle in either of its two. -/
theorem waitingCycleResumes : Obligations.WaitingCycleResumes := by
  refine ⟨?_, diffWaits fun _ _ _ _ => rfl, diffWaits fun _ _ _ _ => rfl, diffWaits fun _ _ _ _ => rfl⟩
  intro s rate n i row active port notEnded legal fits missing
  have count : literalCount n = some n.toNat := literalCount_eq_some.2 ⟨fits.count.1, fits.count.2, rfl⟩
  rcases row with rfl | rfl
  · have run (u : State) : exec (.template rate n) u = u.runCycle .template rate 0#5 (some n.toNat) := count ▸ rfl
    exact firstRun_waits run SubStream.noConfusion active port notEnded legal (by decide) fits missing
  · have run (u : State) : exec (.delta rate n) u = u.runCycle .delta rate 0#5 (some n.toNat) := count ▸ rfl
    exact firstRun_waits run SubStream.noConfusion active port notEnded legal (by decide) fits missing

end Sys2Proof.Machine
end

section
/-!
SUPPORT. Safe answers (Safety.lean): from a state of the invariant neither of the two faults can be reached, operation by
operation, and so no step faults.
-/

namespace Sys2Proof.Machine

@[simp] theorem Result.safe_next (s : State) : Result.safe (.next s) = true := rfl

/-- A sequence is safe where its first part answers a state from which the second is. -/
theorem Result.safe_andThen {r : Result} {f : State → Result} {s : State} (first : r = .next s) (rest : (f s).safe = true) :
    (andThen r f).safe = true := by
  rw [first]; exact rest

/-! ### The register port -/

/-- Every command answers a next state (42_session_commands R171 to R174). -/
theorem execCommand_safe (w : Word) (s : State) : Result.safe (exec (decodeCommand w) s) = true := by
  have decode : (execDecode s).safe = true := by
    unfold execDecode
    cases s.entryError <;> rfl
  unfold decodeCommand
  split
  · rfl
  · rfl
  · exact decode
  · rfl

/-- The one refusal of a register write is that of an `ARG_*` register while Active (93_implementation_defined U5). -/
theorem State.writeRegister_safe (a : Nat) (w : Word) (s : State) : (s.writeRegister a w).safe = true := by
  unfold State.writeRegister
  split
  · rfl
  · split <;> rfl

theorem servePort_safe (req : PortReq) (s : State) : (servePort req s).safe = true := by
  cases req with
  | read a => rfl
  | write a w =>
    rcases eq_or_ne a 0 with rfl | register
    · cases state : s.state with
      | idle =>
        rw [servePort_command w state]
        exact execCommand_safe w s
      | active =>
        rw [servePort_command_active w state]
        rfl
    · rw [servePort_write w s register]
      exact s.writeRegister_safe a w

/-! ### A cycle -/

section InPayload
variable {s : State} (h : s.InPayload)
include h

/-- The samples of a cycle in progress have room in the destination (20_memory R66): the quota lies below the request, and the
request below the capacity. -/
theorem State.InPayload.dstRoom : s.dstRoom s.job.n = true := by
  have ok := h.activeOk
  obtain ⟨room, -, -⟩ := ok.block (by rw [h.phase]; decide)
  obtain ⟨-, -, -, fits⟩ := ok.cycle h.phase
  have request := ok.request
  refine (s.dstRoom_iff s.job.n).2 ⟨ok.channel, ?_⟩
  unfold State.writePos
  omega

theorem State.InPayload.convertRun_safe (samples : List Sample) : (s.convertRun s.job.n samples).safe = true := by
  unfold State.convertRun
  rw [if_pos h.dstRoom]
  rfl

/-- The buffers of a running DECODE are allocated, so an unpacker of a legal rate answers (42_session_commands R174). -/
theorem State.InPayload.selectForBitRate_next {rate : BitVec 5} (legal : rate.toNat ≤ Config.maxRate) :
    ∃ t, selectForBitRate rate s = .next t ∧ t.InPayload := by
  rw [selectForBitRate_of_legal legal]
  obtain ⟨t, unpacked⟩ : ∃ t, s.unpack rate.toNat = .next t :=
    ⟨_, by unfold State.unpack; rw [if_pos h.activeOk.ready]⟩
  exact ⟨t, unpacked, h.unpack unpacked⟩

/-- A FetchUnpack is safe as soon as the rest of its cycle is (44_reconstruct R210). -/
theorem State.InPayload.fetchUnpack_safe {rate : BitVec 5} {k : State → Result} (legal : rate.toNat ≤ Config.maxRate)
    (rest : ∀ u : State, u.InPayload → (k u).safe = true) :
    (s.fetchUnpack (selectForBitRate rate) k).safe = true := by
  obtain ⟨-, run⟩ | ⟨-, -, short⟩ | ⟨-, -, waits⟩ :=
    State.fetchUnpack_cases (unpacker := selectForBitRate rate) (k := k) h.rate_le
  · have staged := (h.consume (byteAmount s.job.rate.toNat s.job.count)).setStage
      ((List.length_take_le _ s.stream).trans h.byteAmount_le)
    obtain ⟨u, unpacked, inPayload⟩ := staged.selectForBitRate_next legal
    rw [run]
    exact Result.safe_andThen unpacked (rest u inPayload)
  · rw [short, Result.safe_next]
  · rw [waits, Result.safe_next]

theorem State.InPayload.setBase_convertWrite_safe {vals : List Sample} (fits : vals.length ≤ Config.block) :
    ((s.setBase vals).convertWrite s.job.n).safe = true :=
  (h.setBase fits).convertRun_safe _

/-- The sums of a delta cycle or of an error sub-stream fit a block. -/
theorem State.InPayload.addRun_length_le :
    (addRun (s.base.take s.job.n) (s.work.take s.job.n)).length ≤ Config.block := by
  rw [addRun_length]
  exact (min_le_left _ _).trans ((List.length_take_le _ _).trans h.n_le)

theorem State.InPayload.startError_safe : s.startError.safe = true := by
  obtain ⟨full, err, positive, fits⟩ := h.activeOk.cycle h.phase
  have started : (s.startJob { s.job with sub := .error }).InPayload :=
    h.inv.startJob h.active (by rw [h.phase]; decide) full err positive fits
  exact started.fetchUnpack_safe err fun u inPayload =>
    inPayload.setBase_convertWrite_safe inPayload.addRun_length_le

/-- The rest of a cycle, after whichever run was unpacked. -/
theorem State.InPayload.completeSub_safe : s.completeSub.safe = true := by
  cases sub : s.job.sub with
  | template =>
    rw [State.completeSub_template sub]
    exact h.convertRun_safe _
  | delta =>
    rw [State.completeSub_delta sub]
    exact h.setBase_convertWrite_safe h.addRun_length_le
  | anchors =>
    have held : (holdAnchors (s.work.take (numAnchors s.job.n)) s.job.n).length ≤ Config.block :=
      (holdAnchors_length _ _).trans_le h.n_le
    rw [State.completeSub_anchors sub]
    split
    · exact h.setBase_convertWrite_safe held
    · exact (h.setBase held).startError_safe
  | error =>
    rw [State.completeSub_error sub]
    exact h.setBase_convertWrite_safe h.addRun_length_le

end InPayload

/-- A cycle that validation rejects aborts, and one that it passes is safe (43_loop_control R194). -/
theorem State.Inv.runCycle_safe {sub : SubStream} {rateFull rateErr : BitVec 5} {count : Option Nat} {s : State}
    (h : s.Inv) (active : s.state = .active) (phase : s.phase = .cycle) (positive : ∀ n, count = some n → 1 ≤ n) :
    (s.runCycle sub rateFull rateErr count).safe = true := by
  cases header : s.headerError rateFull rateErr count with
  | some code => rw [State.runCycle_of_error header, Result.safe_next]
  | none =>
    obtain ⟨full, err, n, rfl, fits⟩ := State.headerError_eq_none.1 header
    have started : (s.startJob ⟨sub, rateFull, rateErr, n⟩).InPayload :=
      h.startJob active (by rw [phase]; decide) full err (positive n rfl) fits
    rw [State.runCycle_of_legal header]
    exact started.fetchUnpack_safe full fun u inPayload => inPayload.completeSub_safe

/-- The step of a cycle: a short or missing header is no fault, and the cycle of a whole one is safe (43_loop_control R194). -/
theorem State.Inv.stepCycle_safe {s : State} (h : s.Inv) (active : s.state = .active) (phase : s.phase = .cycle) :
    s.stepCycle.safe = true := by
  unfold State.stepCycle
  obtain ⟨b0, b1, b2, rest, -, header⟩ | ⟨-, -, header⟩ | ⟨-, -, header⟩ := s.readCycleHeader_cases
  all_goals rw [header]
  · obtain ⟨sub, rateFull, rateErr, count, positive, run⟩ := exec_decodeHeader b0 (numByteOrder b1 b2)
    have latched : ((s.consume 3).latchHeader b0 (numByteOrder b1 b2)).Inv := h.congr rfl
    exact (congrArg Result.safe (run _)).trans (latched.runCycle_safe active phase positive)
  · rfl
  · rfl

/-- Settles O52: a register access is safe in every state, the loop controller has no fault, and a cycle in progress has the
buffers and the room in the destination that the two faults are about. -/
theorem stepNeverFaults : Obligations.StepNeverFaults := by
  intro s h
  cases port : s.port with
  | some req =>
    rw [step_of_port port]
    exact servePort_safe req _
  | none =>
    cases state : s.state with
    | idle => rw [step_of_idle port state, Result.safe_next]
    | active =>
      cases phase : s.phase with
      | blockTest => rw [step_of_blockTest port state phase, Result.safe_next]
      | cycle =>
        rw [step_of_cycle port state phase]
        split
        · exact h.stepCycle_safe state phase
        · rfl
      | payload =>
        have inPayload : s.InPayload := ⟨h, state, phase⟩
        rw [step_of_payload port state phase, State.stepPayload_eq]
        exact inPayload.fetchUnpack_safe inPayload.rate_le fun u held => held.completeSub_safe

end Sys2Proof.Machine
end

section
/-!
SUPPORT. What a step writes in the destination (20_memory R66, R67): the samples of one cycle, in the active channel, at the
write position and below the capacity; everything before the write of a cycle leaves the destination and the write position.
-/

namespace Sys2Proof.Machine

/-- From `s` to `t` no destination sample changed but in the active channel of `s`, from its write position to its capacity. -/
def WritesInBounds (s t : State) : Prop :=
  ∀ (c : BitVec 1) (i : Nat), t.dstRead c i ≠ s.dstRead c i →
    c = s.chan ∧ c.toNat < s.numCh.toNat ∧ s.writePos ≤ i ∧ i < s.destCap.toNat

/-- Both destination channels are as they were. -/
structure SameDst (s t : State) : Prop where
  dst0 : t.dst0 = s.dst0
  dst1 : t.dst1 = s.dst1

theorem SameDst.dstRead {s t : State} (h : SameDst s t) (c : BitVec 1) (i : Nat) : t.dstRead c i = s.dstRead c i := by
  unfold State.dstRead
  rw [h.dst0, h.dst1]

theorem SameDst.writesInBounds {s t : State} (h : SameDst s t) : WritesInBounds s t :=
  fun c i changed => absurd (h.dstRead c i) changed

/-! ### Steps that write nothing -/

theorem SameDst.command {s t : State} (h : CommandCase s t) : SameDst s t := by
  cases h with
  | resets next | setsUp next | starts _ next | refuses _ next => exact next ▸ ⟨rfl, rfl⟩

theorem SameDst.servePort {req : PortReq} {s t : State} (h : servePort req s = .next t) : SameDst s t := by
  cases req with
  | read a => cases h; exact ⟨rfl, rfl⟩
  | write a w =>
    rcases eq_or_ne a 0 with rfl | register
    · cases state : s.state with
      | idle => exact .command (commandCase_of_exec (servePort_command w state ▸ h))
      | active =>
        rw [servePort_command_active w state] at h
        cases h
        exact ⟨rfl, rfl⟩
    · obtain ⟨_, _, _, _, rfl⟩ := State.writeRegister_next (servePort_write w s register ▸ h)
      exact ⟨rfl, rfl⟩

theorem SameDst.blockTest (s : State) : SameDst s s.blockTest := by
  have entered : SameDst s s.enterBlock := by
    unfold State.enterBlock
    dsimp only
    split <;> exact ⟨rfl, rfl⟩
  unfold State.blockTest
  split
  · exact ⟨rfl, rfl⟩
  · split
    · exact ⟨rfl, rfl⟩
    · exact ⟨rfl, rfl⟩
    · exact entered

/-- A selected unpacker writes a buffer, or aborts at an illegal rate (41_bitrate_unpack R142, 60_exceptions R243). -/
theorem SameDst.selectForBitRate {rate : BitVec 5} {s t : State} (h : selectForBitRate rate s = .next t) : SameDst s t := by
  rw [selectForBitRate_eq] at h
  split at h
  · obtain ⟨-, ⟨-, rfl⟩ | ⟨-, rfl⟩⟩ := State.unpack_eq_next.1 h <;> exact ⟨rfl, rfl⟩
  · cases h
    exact ⟨rfl, rfl⟩

/-! ### A cycle

Reading the stream, staging, unpacking, filling `base` and latching a header or operands leave the destination, the channel, the
request and the cursors, so a write that is in bounds after them is in bounds before them. -/

/-- The write of a cycle's samples, of which `base` holds at most as many as the cycle counts (44_reconstruct R211). -/
theorem WritesInBounds.convertWrite {n : Nat} {s t : State} (h : s.convertWrite n = .next t) : WritesInBounds s t := by
  intro c i changed
  obtain ⟨room, -⟩ := State.convertRun_eq_next.1 h
  obtain ⟨channel, space⟩ := (s.dstRoom_iff n).1 room
  have count : (s.base.take n).length ≤ n := List.length_take_le n s.base
  rw [State.dstRead_convertRun h] at changed
  split at changed
  next written =>
    obtain ⟨rfl, low, high⟩ := written
    exact ⟨rfl, channel, low, by omega⟩
  next => exact absurd rfl changed

theorem WritesInBounds.setBase_convertWrite {vals : List Sample} {n : Nat} {s t : State}
    (h : (s.setBase vals).convertWrite n = .next t) : WritesInBounds s t := by
  have written : WritesInBounds (s.setBase vals) t := .convertWrite h
  exact written

/-- A FetchUnpack writes what the rest of its cycle writes (44_reconstruct R210). -/
theorem WritesInBounds.fetchUnpack {rate : BitVec 5} {k : State → Result} {s t : State}
    (legal : s.job.rate.toNat ≤ Config.maxRate → rate.toNat ≤ Config.maxRate)
    (rest : ∀ u : State, k u = .next t → WritesInBounds u t) (h : s.fetchUnpack (selectForBitRate rate) k = .next t) :
    WritesInBounds s t := by
  rcases le_or_gt s.job.rate.toNat Config.maxRate with jobLegal | illegal
  · obtain ⟨-, run⟩ | ⟨-, -, short⟩ | ⟨-, -, waits⟩ :=
      State.fetchUnpack_cases (unpacker := selectForBitRate rate) (k := k) jobLegal
    · rw [run, selectForBitRate_of_legal (legal jobLegal), andThen_eq_next] at h
      obtain ⟨u, unpacked, done⟩ := h
      have written : WritesInBounds u t := rest u done
      obtain ⟨-, ⟨-, rfl⟩ | ⟨-, rfl⟩⟩ := State.unpack_eq_next.1 unpacked <;> exact written
    · rw [short] at h
      cases h
      exact SameDst.writesInBounds ⟨rfl, rfl⟩
    · rw [waits] at h
      cases h
      exact SameDst.writesInBounds ⟨rfl, rfl⟩
  · unfold State.fetchUnpack at h
    rw [if_pos illegal] at h
    exact (SameDst.selectForBitRate h).writesInBounds

theorem WritesInBounds.startError {s t : State} (h : s.startError = .next t) : WritesInBounds s t := by
  have written : WritesInBounds (s.startJob { s.job with sub := .error }) t :=
    .fetchUnpack id (fun _ => .setBase_convertWrite) h
  exact written

/-- The rest of a cycle, after whichever run was unpacked. -/
theorem WritesInBounds.completeSub {s t : State} (h : s.completeSub = .next t) : WritesInBounds s t := by
  cases sub : s.job.sub with
  | template => exact .convertWrite (State.completeSub_template sub ▸ h)
  | delta => exact .setBase_convertWrite (State.completeSub_delta sub ▸ h)
  | anchors =>
    rw [State.completeSub_anchors sub] at h
    split at h
    · exact .setBase_convertWrite h
    · have written := WritesInBounds.startError h
      exact written
  | error => exact .setBase_convertWrite (State.completeSub_error sub ▸ h)

theorem WritesInBounds.runCycle {sub : SubStream} {rateFull rateErr : BitVec 5} {count : Option Nat} {s t : State}
    (h : s.runCycle sub rateFull rateErr count = .next t) : WritesInBounds s t := by
  cases header : s.headerError rateFull rateErr count with
  | some code =>
    rw [State.runCycle_of_error header] at h
    cases h
    exact SameDst.writesInBounds ⟨rfl, rfl⟩
  | none =>
    obtain ⟨full, -, n, rfl, -⟩ := State.headerError_eq_none.1 header
    rw [State.runCycle_of_legal header] at h
    have written : WritesInBounds (s.startJob ⟨sub, rateFull, rateErr, n⟩) t :=
      .fetchUnpack (fun _ => full) (fun _ => .completeSub) h
    exact written

theorem WritesInBounds.stepCycle {s t : State} (h : s.stepCycle = .next t) : WritesInBounds s t := by
  unfold State.stepCycle at h
  obtain ⟨b0, b1, b2, rest, -, header⟩ | ⟨-, -, header⟩ | ⟨-, -, header⟩ := s.readCycleHeader_cases
  all_goals rw [header] at h
  · obtain ⟨sub, rateFull, rateErr, count, -, run⟩ := exec_decodeHeader b0 (numByteOrder b1 b2)
    have written : WritesInBounds ((s.consume 3).latchHeader b0 (numByteOrder b1 b2)) t :=
      .runCycle ((run _).symm.trans h)
    exact written
  · cases h
    exact SameDst.writesInBounds ⟨rfl, rfl⟩
  · cases h
    exact SameDst.writesInBounds ⟨rfl, rfl⟩

/-- Settles O54: only a step inside a cycle of a running DECODE writes the destination, and it writes in bounds. -/
theorem destinationWritesInBounds : Obligations.DestinationWritesInBounds := by
  intro s t c i step changed
  cases stepCase_of_step step with
  | served req port next =>
    have same : SameDst { s with port := none } t := .servePort next
    exact absurd (same.dstRead c i) changed
  | idles _ _ next => exact absurd (by rw [next]) changed
  | tests _ _ _ next => exact absurd (next ▸ (SameDst.blockTest s).dstRead c i) changed
  | runsCycle _ active _ _ next => exact ⟨active, WritesInBounds.stepCycle next c i changed⟩
  | endsBlock _ _ _ _ next =>
    have same : SameDst s s.endBlock := ⟨rfl, rfl⟩
    exact absurd (next ▸ same.dstRead c i) changed
  | fetches _ active _ next =>
    have written : WritesInBounds s t := .fetchUnpack id (fun _ => .completeSub) (s.stepPayload_eq ▸ next)
    exact ⟨active, written c i changed⟩

end Sys2Proof.Machine
end

section
/-!
SUPPORT. The destination is never read (20_memory R65): every operation takes states that differ in the destination alone to
answers that differ in it alone. What reads the state does not see an exchange of the destination (`State.withDst`), what
answers a state commutes with it, and what answers a result is `IgnoresDst`; where both results are next states that is an
equation of records, true by `rfl`.
-/

namespace Sys2Proof.Machine

open Sys2Proof.Claims

/-! ### The exchange of the destination -/

/-- The destination is exchanged, and nothing else. -/
def State.withDst (d0 d1 : DstMem) (s : State) : State := { s with dst0 := d0, dst1 := d1 }

section
variable (d0 d1 : DstMem) (s : State)

@[simp] theorem State.withDst_state : (s.withDst d0 d1).state = s.state := rfl
@[simp] theorem State.withDst_ready : (s.withDst d0 d1).ready = s.ready := rfl
@[simp] theorem State.withDst_readIndex : (s.withDst d0 d1).readIndex = s.readIndex := rfl
@[simp] theorem State.withDst_reqSamples : (s.withDst d0 d1).reqSamples = s.reqSamples := rfl
@[simp] theorem State.withDst_stream : (s.withDst d0 d1).stream = s.stream := rfl
@[simp] theorem State.withDst_streamEnded : (s.withDst d0 d1).streamEnded = s.streamEnded := rfl
@[simp] theorem State.withDst_job : (s.withDst d0 d1).job = s.job := rfl
@[simp] theorem State.withDst_quota : (s.withDst d0 d1).quota = s.quota := rfl
@[simp] theorem State.withDst_blockOpen : (s.withDst d0 d1).blockOpen = s.blockOpen := rfl
@[simp] theorem State.withDst_streamAtEnd : (s.withDst d0 d1).streamAtEnd = s.streamAtEnd := rfl
@[simp] theorem State.withDst_entryError : (s.withDst d0 d1).entryError = s.entryError := rfl
@[simp] theorem State.withDst_dstRoom (n : Nat) : (s.withDst d0 d1).dstRoom n = s.dstRoom n := rfl
@[simp] theorem State.withDst_headerError (rateFull rateErr : BitVec 5) (count : Option Nat) :
    (s.withDst d0 d1).headerError rateFull rateErr count = s.headerError rateFull rateErr count := rfl

end

/-- The answers of `f` do not depend on the destination, but for the destination they leave. -/
def IgnoresDst (f : State → Result) : Prop :=
  ∀ (s : State) (d0 d1 : DstMem), sameButDestination (f s) (f (s.withDst d0 d1))

/-- Results that differ in the destination alone are next states that do, or equal. -/
theorem sameButDestination_cases {r r' : Result} (h : sameButDestination r r') :
    (∃ s d0 d1, r = .next s ∧ r' = .next (s.withDst d0 d1)) ∨
      (∃ e, r = .fault e ∧ r' = .fault e) ∨ (∃ e, r = .refused e ∧ r' = .refused e) := by
  cases r with
  | next s =>
    cases r' with
    | next t =>
      have exchanged : s.withDst t.dst0 t.dst1 = t := h
      exact .inl ⟨s, t.dst0, t.dst1, rfl, by rw [exchanged]⟩
    | fault | refused => exact h.elim
  | fault e =>
    cases r' with
    | fault e' =>
      have same : e = e' := h
      exact .inr (.inl ⟨e, rfl, by rw [same]⟩)
    | next | refused => exact h.elim
  | refused e =>
    cases r' with
    | refused e' =>
      have same : e = e' := h
      exact .inr (.inr ⟨e, rfl, by rw [same]⟩)
    | next | fault => exact h.elim

/-- A sequence of operations that ignore the destination ignores it. -/
theorem sameButDestination_andThen {r r' : Result} {k : State → Result} (first : sameButDestination r r')
    (rest : IgnoresDst k) : sameButDestination (andThen r k) (andThen r' k) := by
  obtain ⟨s, d0, d1, rfl, rfl⟩ | ⟨e, rfl, rfl⟩ | ⟨e, rfl, rfl⟩ := sameButDestination_cases first
  · exact rest s d0 d1
  · exact rfl
  · exact rfl

/-! ### The loop controller -/

theorem State.enterBlock_withDst (d0 d1 : DstMem) (s : State) :
    (s.withDst d0 d1).enterBlock = s.enterBlock.withDst d0 d1 := by
  unfold State.enterBlock
  rw [State.withDst_quota]
  dsimp only
  split <;> rfl

theorem State.blockTest_withDst (d0 d1 : DstMem) (s : State) :
    (s.withDst d0 d1).blockTest = s.blockTest.withDst d0 d1 := by
  unfold State.blockTest
  rw [State.withDst_reqSamples, State.withDst_readIndex, State.withDst_streamAtEnd]
  split
  · rfl
  · split
    · rfl
    · rfl
    · exact s.enterBlock_withDst d0 d1

/-! ### The stream -/

/-- The destination is exchanged in the state that a read answers. -/
def Fetched.withDst (d0 d1 : DstMem) : Fetched → Fetched
  | .waiting => .waiting
  | .short s => .short (s.withDst d0 d1)
  | .got bytes s => .got bytes (s.withDst d0 d1)

theorem State.streamRead_withDst (n : Nat) (d0 d1 : DstMem) (s : State) :
    (s.withDst d0 d1).streamRead n = (s.streamRead n).withDst d0 d1 := by
  unfold State.streamRead
  rw [State.withDst_stream, State.withDst_streamEnded]
  split
  · rfl
  · split <;> rfl

theorem State.readCycleHeader_withDst (d0 d1 : DstMem) (s : State) :
    (s.withDst d0 d1).readCycleHeader = s.readCycleHeader.withDst d0 d1 := by
  unfold State.readCycleHeader
  rw [State.streamRead_withDst]
  cases s.streamRead Config.hdrBytes <;> rfl

/-! ### The register port -/

theorem ignoresDst_execDecode : IgnoresDst execDecode := by
  intro s d0 d1
  unfold execDecode
  rw [State.withDst_entryError]
  cases s.entryError <;> exact rfl

/-- The four command codes (30_encoding R105). -/
theorem ignoresDst_command (w : Word) : IgnoresDst (exec (decodeCommand w)) := by
  intro s d0 d1
  unfold decodeCommand
  split
  · exact rfl
  · exact rfl
  · exact ignoresDst_execDecode s d0 d1
  · exact rfl

theorem ignoresDst_writeRegister (a : Nat) (w : Word) : IgnoresDst (State.writeRegister a w) := by
  intro s d0 d1
  unfold State.writeRegister
  rw [State.withDst_state]
  split
  · exact rfl
  · split <;> exact rfl

theorem ignoresDst_servePort (req : PortReq) : IgnoresDst (servePort req) := by
  intro s d0 d1
  cases req with
  | read a => exact rfl
  | write a w =>
    rcases eq_or_ne a 0 with rfl | register
    · cases state : s.state with
      | idle =>
        rw [servePort_command w state, servePort_command (s := s.withDst d0 d1) w state]
        exact ignoresDst_command w s d0 d1
      | active =>
        rw [servePort_command_active w state, servePort_command_active (s := s.withDst d0 d1) w state]
        exact rfl
    · rw [servePort_write w s register, servePort_write w (s.withDst d0 d1) register]
      exact ignoresDst_writeRegister a w s d0 d1

/-! ### A cycle -/

theorem ignoresDst_unpack (r : Nat) : IgnoresDst (State.unpack r) := by
  intro s d0 d1
  unfold State.unpack
  rw [State.withDst_ready, State.withDst_job]
  split
  · cases s.job.sub <;> exact rfl
  · exact rfl

theorem ignoresDst_selectForBitRate (rate : BitVec 5) : IgnoresDst (selectForBitRate rate) := by
  intro s d0 d1
  rw [selectForBitRate_eq, selectForBitRate_eq]
  split
  · exact ignoresDst_unpack _ s d0 d1
  · exact rfl

/-- The write of a cycle's samples puts them where the cursors say, whatever stands there (20_memory R67). -/
theorem ignoresDst_convertRun (n : Nat) (samples : List Sample) : IgnoresDst (State.convertRun n samples) := by
  intro s d0 d1
  unfold State.convertRun
  rw [State.withDst_dstRoom]
  split <;> exact rfl

theorem ignoresDst_convertWrite (n : Nat) : IgnoresDst (State.convertWrite n) :=
  fun s => ignoresDst_convertRun n (s.base.take n) s

/-- A FetchUnpack ignores the destination as soon as the unpacker and the rest of the cycle do (44_reconstruct R210). -/
theorem ignoresDst_fetchUnpack {unpacker k : State → Result} (unpack : IgnoresDst unpacker) (rest : IgnoresDst k) :
    IgnoresDst (State.fetchUnpack unpacker k) := by
  intro s d0 d1
  unfold State.fetchUnpack
  rw [State.withDst_job, State.streamRead_withDst]
  split
  · exact unpack s d0 d1
  · cases s.streamRead (byteAmount s.job.rate.toNat s.job.count) with
    | waiting => exact rfl
    | short t => exact rfl
    | got bytes t => exact sameButDestination_andThen (unpack (t.setStage bytes) d0 d1) rest

theorem ignoresDst_completeError : IgnoresDst State.completeError :=
  fun s => ignoresDst_convertWrite s.job.n (s.setBase (addRun (s.base.take s.job.n) (s.work.take s.job.n)))

theorem ignoresDst_startError : IgnoresDst State.startError := fun s =>
  ignoresDst_fetchUnpack (ignoresDst_selectForBitRate s.job.rateErr) ignoresDst_completeError
    (s.startJob { s.job with sub := .error })

/-- The rest of a cycle, after whichever run was unpacked. -/
theorem ignoresDst_completeSub : IgnoresDst State.completeSub := by
  intro s d0 d1
  let sums := addRun (s.base.take s.job.n) (s.work.take s.job.n)
  let held := holdAnchors (s.work.take (numAnchors s.job.n)) s.job.n
  cases sub : s.job.sub with
  | template =>
    rw [State.completeSub_template sub, State.completeSub_template (s := s.withDst d0 d1) sub]
    exact ignoresDst_convertWrite s.job.n s d0 d1
  | delta =>
    rw [State.completeSub_delta sub, State.completeSub_delta (s := s.withDst d0 d1) sub]
    exact ignoresDst_convertWrite s.job.n (s.setBase sums) d0 d1
  | anchors =>
    rw [State.completeSub_anchors sub, State.completeSub_anchors (s := s.withDst d0 d1) sub, State.withDst_job]
    split
    · exact ignoresDst_convertWrite s.job.n (s.setBase held) d0 d1
    · exact ignoresDst_startError (s.setBase held) d0 d1
  | error =>
    rw [State.completeSub_error sub, State.completeSub_error (s := s.withDst d0 d1) sub]
    exact ignoresDst_convertWrite s.job.n (s.setBase sums) d0 d1

theorem ignoresDst_runCycle (sub : SubStream) (rateFull rateErr : BitVec 5) (count : Option Nat) :
    IgnoresDst (State.runCycle sub rateFull rateErr count) := by
  intro s d0 d1
  unfold State.runCycle
  rw [State.withDst_headerError]
  cases s.headerError rateFull rateErr count with
  | some e => exact rfl
  | none =>
    exact ignoresDst_fetchUnpack (ignoresDst_selectForBitRate rateFull) ignoresDst_completeSub
      (s.startJob ⟨sub, rateFull, rateErr, count.getD 0⟩) d0 d1

theorem ignoresDst_cycle (info : Byte) (num : BitVec 16) : IgnoresDst (exec (decodeHeader info num)) := by
  obtain ⟨sub, rateFull, rateErr, count, -, run⟩ := exec_decodeHeader info num
  rw [funext run]
  exact ignoresDst_runCycle sub rateFull rateErr count

theorem ignoresDst_stepCycle : IgnoresDst State.stepCycle := by
  intro s d0 d1
  unfold State.stepCycle
  rw [State.readCycleHeader_withDst]
  cases s.readCycleHeader with
  | waiting => exact rfl
  | short t => exact rfl
  | got bytes t => exact ignoresDst_cycle t.hdrInfo t.hdrNum t d0 d1

theorem ignoresDst_stepPayload : IgnoresDst State.stepPayload := by
  intro s d0 d1
  rw [State.stepPayload_eq, State.stepPayload_eq]
  exact ignoresDst_fetchUnpack (ignoresDst_selectForBitRate s.job.rate) ignoresDst_completeSub s d0 d1

/-- Exchanging the destination changes neither the branch a step takes nor what the branch does besides writing it. -/
theorem ignoresDst_step : IgnoresDst step := by
  intro s d0 d1
  let s' := s.withDst d0 d1
  cases port : s.port with
  | some req =>
    rw [step_of_port port, step_of_port (s := s') port]
    exact ignoresDst_servePort req { s with port := none } d0 d1
  | none =>
    cases state : s.state with
    | idle =>
      rw [step_of_idle port state, step_of_idle (s := s') port state]
      exact rfl
    | active =>
      cases phase : s.phase with
      | blockTest =>
        rw [step_of_blockTest port state phase, step_of_blockTest (s := s') port state phase, State.blockTest_withDst]
        exact rfl
      | cycle =>
        rw [step_of_cycle port state phase, step_of_cycle (s := s') port state phase, State.withDst_blockOpen]
        split
        · exact ignoresDst_stepCycle s d0 d1
        · exact rfl
      | payload =>
        rw [step_of_payload port state phase, step_of_payload (s := s') port state phase]
        exact ignoresDst_stepPayload s d0 d1

/-- Settles O55: a step is made of operations that ignore the destination. -/
theorem destinationNeverRead : Obligations.DestinationNeverRead := ignoresDst_step

end Sys2Proof.Machine
end

section
/-!
SUPPORT. The three formats (30_encoding). A header byte is its three fields side by side, so a mask on it is a mask on each
field; what a header decodes to is one of two rows, selected by the diff flag (`decodeHeader_eq`). The statements about
encodings follow from these.
-/

namespace Sys2Proof

open Sys2Proof.Machine

/-! ### The fields of `headerInfo` -/

section
variable (flag : BitVec 2) (tmpl : BitVec 1) (rate : BitVec 5)

@[simp] theorem hdrDiff_append : hdrDiff (flag ++ tmpl ++ rate) = flag :=
  (BitVec.extractLsb'_append_eq_of_le (xhi := flag ++ tmpl) (start := 6) (by decide)).trans
    BitVec.extractLsb'_append_eq_left

@[simp] theorem hdrTmpl_append : hdrTmpl (flag ++ tmpl ++ rate) = tmpl :=
  (BitVec.extractLsb'_append_eq_of_le (xhi := flag ++ tmpl) (start := 5) (by decide)).trans
    BitVec.extractLsb'_append_eq_right

@[simp] theorem hdrRateFull_append : hdrRateFull (flag ++ tmpl ++ rate) = rate :=
  BitVec.extractLsb'_append_eq_right (a := flag ++ tmpl)

end

/-- A header byte is its diff flag, its template flag and its rate (30_encoding R92). -/
theorem header_fields (info : Byte) : hdrDiff info ++ hdrTmpl info ++ hdrRateFull info = info := by
  have flags : hdrDiff info ++ hdrTmpl info = info.extractLsb' 5 3 :=
    BitVec.extractLsb'_append_extractLsb'_eq_extractLsb' (start₁ := 5) (len₁ := 1) rfl
  rw [flags]
  exact BitVec.extractLsb'_append_extractLsb' (w := 3) (len := 5)

/-- A mask on a header byte masks each field. -/
theorem and_header_fields (info : Byte) (flag : BitVec 2) (tmpl : BitVec 1) (rate : BitVec 5) :
    info &&& (flag ++ tmpl ++ rate) =
      (hdrDiff info &&& flag) ++ (hdrTmpl info &&& tmpl) ++ (hdrRateFull info &&& rate) := by
  rw [← BitVec.and_append, ← BitVec.and_append, header_fields]

/-- The mask of the diff flag. -/
theorem and_diffFlag (info : Byte) : info &&& 0xC0#8 = hdrDiff info ++ 0#1 ++ 0#5 := by
  have masked := and_header_fields info (BitVec.allOnes 2) 0#1 0#5
  rwa [BitVec.and_allOnes, BitVec.and_zero, BitVec.and_zero] at masked

/-- The mask of the two flags. -/
theorem and_flags (info : Byte) : info &&& 0xE0#8 = hdrDiff info ++ hdrTmpl info ++ 0#5 := by
  have masked := and_header_fields info (BitVec.allOnes 2) (BitVec.allOnes 1) 0#5
  rwa [BitVec.and_allOnes, BitVec.and_allOnes, BitVec.and_zero] at masked

/-- The mask of the bits of a diff header that have a meaning (30_encoding R103). -/
theorem and_diffFields (info : Byte) : info &&& 0xDF#8 = hdrDiff info ++ 0#1 ++ hdrRateFull info := by
  have masked := and_header_fields info (BitVec.allOnes 2) 0#1 (BitVec.allOnes 5)
  rwa [BitVec.and_allOnes, BitVec.and_zero, BitVec.and_allOnes] at masked

/-- The diff flag is known from its mask. -/
theorem and_diffFlag_eq_iff {info : Byte} {flag : BitVec 2} :
    info &&& 0xC0#8 = flag ++ 0#1 ++ 0#5 ↔ hdrDiff info = flag := by
  rw [and_diffFlag]
  exact ⟨fun h => by simpa only [hdrDiff_append] using congrArg hdrDiff h, fun h => h ▸ rfl⟩

/-- Both flags are known from their mask. -/
theorem and_flags_eq_iff {info : Byte} {flag : BitVec 2} {tmpl : BitVec 1} :
    info &&& 0xE0#8 = flag ++ tmpl ++ 0#5 ↔ hdrDiff info = flag ∧ hdrTmpl info = tmpl := by
  rw [and_flags]
  constructor
  · intro h
    exact ⟨by simpa only [hdrDiff_append] using congrArg hdrDiff h,
      by simpa only [hdrTmpl_append] using congrArg hdrTmpl h⟩
  · rintro ⟨rfl, rfl⟩
    rfl

/-- The header has the diff flag 0 (30_encoding R92). -/
theorem and_diffFlag_eq_zero_iff {info : Byte} : info &&& 0xC0#8 = 0#8 ↔ hdrDiff info = 0#2 :=
  and_diffFlag_eq_iff (flag := 0#2)

/-! ### The fields of `hdrNum` -/

@[simp] theorem extractLsb'_numByteOrder_low (b1 b2 : Byte) : (numByteOrder b1 b2).extractLsb' 0 8 = b1 :=
  BitVec.extractLsb'_append_eq_right

@[simp] theorem extractLsb'_numByteOrder_high (b1 b2 : Byte) : (numByteOrder b1 b2).extractLsb' 8 8 = b2 :=
  BitVec.extractLsb'_append_eq_left

/-- The two bytes of a count, read back (30_encoding R93). -/
@[simp] theorem numByteOrder_extractLsb' (n : BitVec 16) : numByteOrder (n.extractLsb' 0 8) (n.extractLsb' 8 8) = n :=
  BitVec.extractLsb'_append_extractLsb' (w := 8) (len := 8)

@[simp] theorem hdrLog2_numByteOrder (b1 b2 : Byte) : hdrLog2 (numByteOrder b1 b2) = b1 :=
  extractLsb'_numByteOrder_low b1 b2

@[simp] theorem hdrRateErr_numByteOrder (b1 b2 : Byte) : hdrRateErr (numByteOrder b1 b2) = b2.extractLsb' 0 5 :=
  BitVec.extractLsb'_append_eq_of_le (start := 8) (by decide)

/-- `k` is below the ignored bits of `hdrNum` (30_encoding R94, R103). -/
theorem hdrLog2_and (num : BitVec 16) : hdrLog2 (num &&& 0x1FFF#16) = hdrLog2 num :=
  BitVec.extractLsb'_and.trans (BitVec.and_allOnes (x := hdrLog2 num))

/-- `rateErr` is below the ignored bits of `hdrNum` (30_encoding R94, R103). -/
theorem hdrRateErr_and (num : BitVec 16) : hdrRateErr (num &&& 0x1FFF#16) = hdrRateErr num :=
  BitVec.extractLsb'_and.trans (BitVec.and_allOnes (x := hdrRateErr num))

/-- The low `w` bits of a word, the others cleared. -/
theorem zero_append_extractLsb' {v w : Nat} (x : BitVec (v + w)) :
    0#v ++ x.extractLsb' 0 w = x &&& (0#v ++ BitVec.allOnes w) := by
  conv_rhs => rw [← BitVec.extractLsb'_append_extractLsb' (x := x), BitVec.and_append, BitVec.and_zero, BitVec.and_allOnes]

/-! ### The rows of a header -/

/-- A two-bit field, a diff flag or a command code, has four values. -/
theorem twoBits_cases : ∀ d : BitVec 2, d = 0#2 ∨ d = 1#2 ∨ d = 2#2 ∨ d = 3#2 := by decide

/-- The row of a header whose diff flag is 0, by its template flag (30_encoding R95). -/
def literalRow (tmpl : BitVec 1) (rate : BitVec 5) (n : BitVec 16) : Instr :=
  if tmpl = 1#1 then .template rate n else .delta rate n

/-- The row of a header whose diff flag is not 0, by that flag (30_encoding R95). -/
def diffRow (flag : BitVec 2) (rateFull rateErr : BitVec 5) (k : BitVec 8) : Instr :=
  if flag = 1#2 then .diff1 rateFull rateErr k
  else if flag = 2#2 then .diff2 rateFull rateErr k
  else .diff3 rateFull rateErr k

/-- The cycle a header selects: the diff flag decides between the two kinds of rows (30_encoding R95). -/
theorem decodeHeader_eq (info : Byte) (num : BitVec 16) :
    decodeHeader info num =
      if hdrDiff info = 0#2 then literalRow (hdrTmpl info) (hdrRateFull info) num
      else diffRow (hdrDiff info) (hdrRateFull info) (hdrRateErr num) (hdrLog2 num) := by
  unfold decodeHeader
  rcases twoBits_cases (hdrDiff info) with h | h | h | h <;> rw [h] <;> rfl

theorem decodeHeader_of_literal {info : Byte} (h : hdrDiff info = 0#2) (num : BitVec 16) :
    decodeHeader info num = literalRow (hdrTmpl info) (hdrRateFull info) num := by
  rw [decodeHeader_eq, if_pos h]

theorem decodeHeader_of_diff {info : Byte} (h : hdrDiff info ≠ 0#2) (num : BitVec 16) :
    decodeHeader info num = diffRow (hdrDiff info) (hdrRateFull info) (hdrRateErr num) (hdrLog2 num) := by
  rw [decodeHeader_eq, if_neg h]

theorem encode_literalRow (tmpl : BitVec 1) (rate : BitVec 5) (n : BitVec 16) :
    encode (literalRow tmpl rate n) = encodeLiteral tmpl rate n := by
  have flags : ∀ t : BitVec 1, t = 0#1 ∨ t = 1#1 := by decide
  rcases flags tmpl with rfl | rfl <;> rfl

theorem encode_diffRow {flag : BitVec 2} (h : flag ≠ 0#2) (rateFull rateErr : BitVec 5) (k : BitVec 8) :
    encode (diffRow flag rateFull rateErr k) = encodeDiff flag rateFull rateErr k := by
  rcases twoBits_cases flag with rfl | rfl | rfl | rfl
  · exact absurd rfl h
  all_goals rfl

/-- Every row with a non-zero diff flag runs the one diff cycle (44_reconstruct R216). -/
theorem exec_diffRow (flag : BitVec 2) (rateFull rateErr : BitVec 5) (k : BitVec 8) (s : State) :
    exec (diffRow flag rateFull rateErr k) s = s.runCycle .anchors rateFull rateErr (log2Count k) := by
  unfold diffRow
  split
  · rfl
  · split <;> rfl

/-! ### Decoding an encoding -/

theorem decode_encodeLiteral (tmpl : BitVec 1) (rate : BitVec 5) (n : BitVec 16) (rest : List Byte) :
    decode .hdr (encodeLiteral tmpl rate n ++ rest) = .ok (literalRow tmpl rate n, rest) := by
  have row : decodeHeader (0#2 ++ tmpl ++ rate) (numByteOrder (n.extractLsb' 0 8) (n.extractLsb' 8 8)) =
      literalRow tmpl rate n := by
    rw [numByteOrder_extractLsb', decodeHeader_of_literal (hdrDiff_append _ _ _), hdrTmpl_append, hdrRateFull_append]
  rw [← row]
  rfl

theorem decode_encodeDiff {flag : BitVec 2} (h : flag ≠ 0#2) (rateFull rateErr : BitVec 5) (k : BitVec 8)
    (rest : List Byte) :
    decode .hdr (encodeDiff flag rateFull rateErr k ++ rest) = .ok (diffRow flag rateFull rateErr k, rest) := by
  have error : hdrRateErr (numByteOrder k (0#3 ++ rateErr)) = rateErr :=
    (hdrRateErr_numByteOrder _ _).trans BitVec.extractLsb'_append_eq_right
  have row : decodeHeader (flag ++ 0#1 ++ rateFull) (numByteOrder k (0#3 ++ rateErr)) = diffRow flag rateFull rateErr k := by
    rw [decodeHeader_of_diff (by rwa [hdrDiff_append]), hdrDiff_append, hdrRateFull_append, error, hdrLog2_numByteOrder]
  rw [← row]
  rfl

theorem decode_encodeRate (r : BitVec 5) (rest : List Byte) :
    decode .rate (encodeRate r ++ rest) = .ok (decodeRate r, rest) := by
  have upper : (0#3 ++ r).extractLsb' 5 3 = 0#3 := BitVec.extractLsb'_append_eq_left
  have lower : (0#3 ++ r).extractLsb' 0 5 = r := BitVec.extractLsb'_append_eq_right
  refine (if_pos upper).trans ?_
  rw [lower]
  rfl

theorem decode_encodeOp (op : BitVec 2) (rest : List Byte) :
    decode .cmd (encodeOp op ++ rest) = .ok (decodeCommand (op.setWidth 32), rest) := by
  have code : ∀ o : BitVec 2, (0#6 ++ o).setWidth 32 = o.setWidth 32 := by decide
  rw [← code op]
  rfl

/-- Settles O1: a header row, a rate row and a command row each decode from their format's bytes. -/
theorem decodeOfEncode : Obligations.DecodeOfEncode := by
  intro i rest
  cases i with
  | template rate n => exact decode_encodeLiteral 1#1 rate n rest
  | delta rate n => exact decode_encodeLiteral 0#1 rate n rest
  | diff1 rateFull rateErr k => exact decode_encodeDiff (flag := 1#2) (by decide) rateFull rateErr k rest
  | diff2 rateFull rateErr k => exact decode_encodeDiff (flag := 2#2) (by decide) rateFull rateErr k rest
  | diff3 rateFull rateErr k => exact decode_encodeDiff (flag := 3#2) (by decide) rateFull rateErr k rest
  | unpack0 | unpack1 | unpack2 | unpack3 | unpack4 | unpack5 | unpack6 | unpack7 | unpack8 | unpack9 | unpack10
  | unpack11 | unpack12 | unpack13 | unpack14 | unpack15 | unpack16 | unpackIll17 => exact decode_encodeRate _ rest
  | unpackIll18_19 low =>
    have row : ∀ l : BitVec 1, decodeRate (9#4 ++ l) = .unpackIll18_19 l := by decide
    exact (decode_encodeRate (9#4 ++ low) rest).trans (by rw [row low])
  | unpackIll20_23 low =>
    have row : ∀ l : BitVec 2, decodeRate (5#3 ++ l) = .unpackIll20_23 l := by decide
    exact (decode_encodeRate (5#3 ++ low) rest).trans (by rw [row low])
  | unpackIll24_31 low =>
    have row : ∀ l : BitVec 3, decodeRate (3#2 ++ l) = .unpackIll24_31 l := by decide
    exact (decode_encodeRate (3#2 ++ low) rest).trans (by rw [row low])
  | reset | setup | decode | cmdReserved => exact decode_encodeOp _ rest

/-! ### Encoding what was decoded -/

/-- Every rate selects the row that encodes it (41_bitrate_unpack R140). -/
theorem encode_decodeRate (r : BitVec 5) : encode (decodeRate r) = encodeRate r := by
  obtain ⟨r, rfl⟩ : ∃ f : Fin 32, r = BitVec.ofFin f := ⟨r.toFin, rfl⟩
  fin_cases r <;> rfl

/-- A command word is encoded by its two low bits (30_encoding R105). -/
theorem encode_decodeCommand (w : Word) : encode (decodeCommand w) = encodeOp (w.extractLsb' 0 2) := by
  unfold decodeCommand
  rcases twoBits_cases (w.extractLsb' 0 2) with h | h | h | h <;> rw [h] <;> rfl

/-- The bytes of a literal header, put together again. -/
theorem encodeLiteral_numByteOrder (info b1 b2 : Byte) (h : hdrDiff info = 0#2) :
    encodeLiteral (hdrTmpl info) (hdrRateFull info) (numByteOrder b1 b2) = [info, b1, b2] := by
  rw [encodeLiteral, ← h, header_fields, extractLsb'_numByteOrder_low, extractLsb'_numByteOrder_high]

/-- The bytes of a diff header, put together again, the ignored bits cleared (30_encoding R103). -/
theorem encodeDiff_numByteOrder (info b1 b2 : Byte) :
    encodeDiff (hdrDiff info) (hdrRateFull info) (hdrRateErr (numByteOrder b1 b2)) (hdrLog2 (numByteOrder b1 b2)) =
      [info &&& 0xDF#8, b1, b2 &&& 0x1F#8] := by
  rw [encodeDiff, hdrLog2_numByteOrder, hdrRateErr_numByteOrder, and_diffFields, zero_append_extractLsb' (v := 3)]
  rfl

/-- The byte of a command word, the ignored bits cleared (30_encoding R105). -/
theorem encodeOp_extractLsb' (w : Word) : encodeOp (w.extractLsb' 0 2) = [(w &&& 3#32).setWidth 8] := by
  rw [encodeOp, BitVec.setWidth_and, ← BitVec.extractLsb'_setWidth_of_le (w' := 8) (by decide),
    zero_append_extractLsb' (v := 6)]
  rfl

/-- Settles O2: each kind of word is encoded again from the fields it was decoded into. -/
theorem encodeOfDecode : Obligations.EncodeOfDecode := by
  refine ⟨fun b0 b1 b2 => ?_, fun r => ?_, fun w => ?_⟩
  · by_cases h : hdrDiff b0 = 0#2
    · rw [if_pos (and_diffFlag_eq_zero_iff.2 h), decodeHeader_of_literal h, encode_literalRow,
        encodeLiteral_numByteOrder b0 b1 b2 h]
    · rw [if_neg (mt and_diffFlag_eq_zero_iff.1 h), decodeHeader_of_diff h, encode_diffRow h, encodeDiff_numByteOrder]
  · rw [encode_decodeRate, encodeRate, BitVec.setWidth_eq_append (by decide)]
    rfl
  · rw [encode_decodeCommand, encodeOp_extractLsb']

/-! ### The ignored bits -/

/-- A diff header means the same with its ignored bits cleared (30_encoding R103). -/
theorem decodeHeader_and_of_diff {info : Byte} (h : hdrDiff info ≠ 0#2) (num : BitVec 16) :
    decodeHeader (info &&& 0xDF#8) (num &&& 0x1FFF#16) = decodeHeader info num := by
  rw [and_diffFields, decodeHeader_of_diff (by rwa [hdrDiff_append]), decodeHeader_of_diff h, hdrDiff_append,
    hdrRateFull_append, hdrLog2_and, hdrRateErr_and]

/-- A packed field is read from its own bits alone (41_bitrate_unpack R143). -/
theorem packedField_congr {src src' : List Byte} {start : Nat} :
    ∀ {width : Nat}, (∀ b, b < width → payloadBit src (start + b) = payloadBit src' (start + b)) →
      packedField src start width = packedField src' start width
  | 0, _ => rfl
  | width + 1, same => by
    rw [packedField, packedField, packedField_congr fun b hb => same b (hb.trans width.lt_succ_self),
      same width width.lt_succ_self]

/-- A packed run is read from its own bits alone (30_encoding R103). -/
theorem unpackRun_congr {r c : Nat} {src src' : List Byte}
    (same : ∀ t, t < r * c → payloadBit src t = payloadBit src' t) : unpackRun r c src = unpackRun r c src' := by
  refine List.map_congr_left fun i hi => ?_
  have within : i * r + r ≤ r * c := calc
    i * r + r = r * (i + 1) := by ring
    _ ≤ r * c := Nat.mul_le_mul_left r (List.mem_range.1 hi)
  rw [unpackValue, unpackValue, packedField_congr fun b hb => same _ (by omega)]

/-- Settles O3: a diff header means what is left when its ignored bits are cleared, a run is read from its own bits, and a
literal header keeps the whole of `hdrNum`. -/
theorem ignoredBitsHaveNoEffect : Obligations.IgnoredBitsHaveNoEffect := by
  refine ⟨fun info info' num num' diff sameInfo sameNum => ?_, fun _ _ _ _ => unpackRun_congr,
    fun info num literal => ?_⟩
  · have flag : hdrDiff info ≠ 0#2 := mt and_diffFlag_eq_zero_iff.2 diff
    have sameFlag : hdrDiff info = hdrDiff info' := by
      simpa only [and_diffFields, hdrDiff_append] using congrArg hdrDiff sameInfo
    rw [← decodeHeader_and_of_diff flag, sameInfo, sameNum, decodeHeader_and_of_diff (sameFlag ▸ flag)]
  · rw [decodeHeader_of_literal (and_diffFlag_eq_zero_iff.1 literal), literalRow]
    refine ⟨hdrRateFull info, ?_⟩
    split
    · exact .inl rfl
    · exact .inr rfl

/-! ### The mode of a cycle -/

@[simp] theorem getBitRate_full (info : Byte) (num : BitVec 16) : getBitRate info num true = hdrRateFull info :=
  if_neg fun h => Bool.noConfusion h.2

theorem getBitRate_error {info : Byte} (h : hdrDiff info ≠ 0#2) (num : BitVec 16) :
    getBitRate info num false = hdrRateErr num :=
  if_pos ⟨h, rfl⟩

theorem hdrLog2_eq_setWidth (num : BitVec 16) : hdrLog2 num = num.setWidth 8 :=
  (BitVec.setWidth_eq_extractLsb' (by decide)).symm

/-- The row of a literal header with its operands by the accessor (30_encoding R95, R96). -/
theorem decodeHeader_of_flags {info : Byte} {tmpl : BitVec 1} (h : info &&& 0xE0#8 = 0#2 ++ tmpl ++ 0#5) (num : BitVec 16) :
    decodeHeader info num = literalRow tmpl (getBitRate info num true) num := by
  obtain ⟨flag, template⟩ := and_flags_eq_iff.1 h
  rw [decodeHeader_of_literal flag, template, getBitRate_full]

/-- The row of a diff header with its operands by the accessors (30_encoding R95, R96). -/
theorem decodeHeader_of_diffFlag {info : Byte} {flag : BitVec 2} (h : info &&& 0xC0#8 = flag ++ 0#1 ++ 0#5)
    (nonzero : flag ≠ 0#2) (num : BitVec 16) :
    decodeHeader info num = diffRow flag (getBitRate info num true) (getBitRate info num false) (num.setWidth 8) := by
  obtain rfl := and_diffFlag_eq_iff.1 h
  rw [decodeHeader_of_diff nonzero, getBitRate_full, getBitRate_error nonzero, hdrLog2_eq_setWidth]

/-- Settles O5: the masks single out the flags, and the flags the row. -/
theorem headerSelectsMode : Obligations.HeaderSelectsMode := fun _ num =>
  ⟨fun h => decodeHeader_of_flags (tmpl := 1#1) h num, fun h => decodeHeader_of_flags (tmpl := 0#1) h num,
    fun h => decodeHeader_of_diffFlag (flag := 1#2) h (by decide) num,
    fun h => decodeHeader_of_diffFlag (flag := 2#2) h (by decide) num,
    fun h => decodeHeader_of_diffFlag (flag := 3#2) h (by decide) num⟩

/-- Settles O6: the five worked headers are the encodings of the instructions named; the other words are evaluated. -/
theorem workedWordsDecode : Obligations.WorkedWordsDecode :=
  ⟨decodeOfEncode (.template 4#5 256#16) [], decodeOfEncode (.delta 2#5 256#16) [], decodeOfEncode (.diff1 4#5 2#5 8#8) [],
    decodeOfEncode (.template 0#5 4096#16) [], decodeOfEncode (.template 16#5 1#16) [0xFE#8, 0xFF#8],
    by decide, rfl, rfl, rfl⟩

/-- Settles O26: the three rows run one and the same cycle. -/
theorem diffFlagsAgree : Obligations.DiffFlagsAgree := fun s rateFull rateErr k =>
  have run (flag : BitVec 2) := exec_diffRow flag rateFull rateErr k s
  ⟨(run 1#2).trans (run 2#2).symm, (run 2#2).trans (run 3#2).symm⟩

end Sys2Proof
end

section
/-!
SUPPORT. The header of a cycle (40_cycle_header): what reading it can do at an open block, what the abort of a short read
leaves, and its fields as the masks and shifts of R121 to R124.
-/

namespace Sys2Proof.Machine

open Sys2Proof.Claims

/-! ### The abort rule -/

/-- The structural errors are the codes 3 to 5 (60_exceptions R240). -/
theorem ErrorCode.structural_iff (e : ErrorCode) :
    e.structural = true ↔ e.code = 3#4 ∨ e.code = 4#4 ∨ e.code = 5#4 := by
  cases e <;> decide

/-- `Abort(code)` leaves what 60_exceptions R250 says, whatever the error and the state. -/
theorem aborted_abort (e : ErrorCode) (s : State) : Aborted e.code s (s.abort e) where
  status := rfl
  fault := by simp only [State.abort_fault, e.structural_iff]
  readIndex := rfl
  produced := rfl
  readOffset := rfl
  perf := fun off => by simp [off]
  frame := rfl

/-! ### Reading a header -/

/-- A core at an open block begins a cycle (43_loop_control R193). -/
theorem step_of_openBlock {s : State} (port : s.port = none) (active : s.state = .active) (phase : s.phase = .cycle)
    (isOpen : s.indexInBlock.toNat < s.numTodo.toNat) : step s = s.stepCycle := by
  rw [step_of_cycle port active phase]
  exact if_pos (decide_eq_true isOpen)

/-- With its three bytes there, a header is consumed and latched, and selects the cycle that runs (40_cycle_header R120). -/
theorem State.stepCycle_of_header {s : State} {b0 b1 b2 : Byte} {rest : List Byte}
    (stream : s.stream = b0 :: b1 :: b2 :: rest) :
    s.stepCycle = exec (decodeHeader b0 (numByteOrder b1 b2)) { s with
      stream := rest, spos := s.spos + 3, hdrInfo := b0, hdrNum := numByteOrder b1 b2 } := by
  have supplied : 3 ≤ s.stream.length := by rw [stream]; exact Nat.le_add_left 3 rest.length
  unfold State.stepCycle
  obtain ⟨c0, c1, c2, after, stream', header⟩ | ⟨short, -⟩ | ⟨short, -⟩ := s.readCycleHeader_cases
  · obtain ⟨rfl, rfl, rfl, rfl⟩ : b0 = c0 ∧ b1 = c1 ∧ b2 = c2 ∧ rest = after := by
      simpa using stream.symm.trans stream'
    have dropped : s.stream.drop 3 = rest := by rw [stream]; rfl
    rw [header, ← dropped]
    rfl
  all_goals exact absurd supplied (Nat.not_le.2 short)

/-- Where fewer than three bytes stand, the declaration of the end decides (40_cycle_header R120, 20_memory R64). -/
theorem State.readCycleHeader_of_short {s : State} (short : s.stream.length < 3) :
    s.readCycleHeader = if s.streamEnded then .short (s.consume s.stream.length) else .waiting := by
  obtain ⟨_, _, _, rest, stream, -⟩ | ⟨-, ended, header⟩ | ⟨-, notEnded, header⟩ := s.readCycleHeader_cases
  · rw [stream] at short
    exact absurd short (Nat.not_lt.2 (Nat.le_add_left 3 rest.length))
  · rw [header, if_pos ended]
  · rw [header, notEnded]
    rfl

/-- A short header read at the end of the stream consumes what remains and aborts (60_exceptions R241). -/
theorem State.stepCycle_of_short {s : State} (short : s.stream.length < 3) (ended : s.streamEnded = true) :
    s.stepCycle = .next ((s.consume s.stream.length).abort .streamExhausted) := by
  rw [State.stepCycle, State.readCycleHeader_of_short short, if_pos ended]

/-- Before the end is declared, a header that is not there is waited for (20_memory R64). -/
theorem State.stepCycle_waits {s : State} (short : s.stream.length < 3) (notEnded : s.streamEnded = false) :
    s.stepCycle = .next s := by
  rw [State.stepCycle, State.readCycleHeader_of_short short, notEnded]
  rfl

/-- Settles O31: the short read consumes the whole stream and the abort rule does the rest, or the core waits. -/
theorem shortHeaderAborts : Obligations.ShortHeaderAborts := by
  intro s port active phase isOpen short
  rw [step_of_openBlock port active phase isOpen]
  refine ⟨fun ended => ⟨_, State.stepCycle_of_short short ended, ?_⟩, State.stepCycle_waits short⟩
  have consumed : s.consume s.stream.length = { s with stream := [], spos := s.spos + s.stream.length } := by
    rw [State.consume, List.drop_length]
  rw [← consumed]
  exact aborted_abort .streamExhausted _

/-- Settles O9: the decoder and the step read the same three bytes, at their place in the stream. -/
theorem stepRunsCycleHeader : Obligations.StepRunsCycleHeader := by
  intro s b0 b1 b2 rest port active phase isOpen stream
  refine ⟨decodeHeader b0 (numByteOrder b1 b2), by rw [stream]; rfl, ?_⟩
  rw [step_of_openBlock port active phase isOpen]
  exact State.stepCycle_of_header stream

/-! ### The accessors -/

/-- A field of a word is the word shifted to it and masked to its width. -/
theorem toNat_shiftRight_and_mask {v : Nat} (x : BitVec v) (start : Nat) {len : Nat} (fits : len ≤ v) :
    ((x >>> start) &&& BitVec.ofNat v (2 ^ len - 1)).toNat = (x.extractLsb' start len).toNat := by
  have mask : 2 ^ len - 1 < 2 ^ v :=
    (Nat.sub_lt (Nat.two_pow_pos len) Nat.one_pos).trans_le (Nat.pow_le_pow_right (by decide) fits)
  rw [BitVec.toNat_and, BitVec.toNat_ofNat, Nat.mod_eq_of_lt mask, Nat.and_two_pow_sub_one_eq_mod, BitVec.toNat_ushiftRight,
    BitVec.extractLsb'_toNat]

theorem hdrRateFull_toNat (info : Byte) : (hdrRateFull info).toNat = (info &&& 0x1F#8).toNat :=
  (toNat_shiftRight_and_mask info 0 (len := 5) (by decide)).symm

theorem hdrRateErr_toNat (num : BitVec 16) : (hdrRateErr num).toNat = ((num >>> 8) &&& 0x1F#16).toNat :=
  (toNat_shiftRight_and_mask num 8 (len := 5) (by decide)).symm

theorem hdrLog2_toNat (num : BitVec 16) : (hdrLog2 num).toNat = (num &&& 0xFF#16).toNat :=
  (toNat_shiftRight_and_mask num 0 (len := 8) (by decide)).symm

/-- The mask of the template flag. -/
theorem and_templateFlag (info : Byte) : info &&& 0x20#8 = 0#2 ++ hdrTmpl info ++ 0#5 := by
  have masked := and_header_fields info 0#2 (BitVec.allOnes 1) 0#5
  rwa [BitVec.and_zero, BitVec.and_allOnes, BitVec.and_zero] at masked

/-- The header has the diff flag set (40_cycle_header R121). -/
theorem and_diffFlag_ne_zero_iff {info : Byte} : info &&& 0xC0#8 ≠ 0#8 ↔ hdrDiff info ≠ 0#2 :=
  not_congr and_diffFlag_eq_zero_iff

/-- The header has the template flag set (40_cycle_header R122). -/
theorem and_templateFlag_ne_zero_iff {info : Byte} : info &&& 0x20#8 ≠ 0#8 ↔ hdrTmpl info = 1#1 := by
  have bit : ∀ t : BitVec 1, 0#2 ++ t ++ 0#5 ≠ 0#8 ↔ t = 1#1 := by decide
  rw [and_templateFlag]
  exact bit (hdrTmpl info)

theorem State.isDiff_eq_mask (s : State) : s.isDiff = decide (s.hdrInfo &&& 0xC0#8 ≠ 0#8) :=
  decide_eq_decide.2 and_diffFlag_ne_zero_iff.symm

theorem State.isTemplate_eq_mask (s : State) : s.isTemplate = decide (s.hdrInfo &&& 0x20#8 ≠ 0#8) :=
  decide_eq_decide.2 and_templateFlag_ne_zero_iff.symm

/-- `getBitRate` by masks and shifts (40_cycle_header R123). -/
theorem getBitRate_toNat (info : Byte) (num : BitVec 16) (full : Bool) :
    (getBitRate info num full).toNat =
      if info &&& 0xC0#8 ≠ 0#8 ∧ full = false then ((num >>> 8) &&& 0x1F#16).toNat else (info &&& 0x1F#8).toNat := by
  simp only [getBitRate, and_diffFlag_ne_zero_iff, ← hdrRateErr_toNat, ← hdrRateFull_toNat]
  exact apply_ite BitVec.toNat _ _ _

/-- `getNumSamples` by masks (40_cycle_header R124). -/
theorem getNumSamples_eq_mask (info : Byte) (num : BitVec 16) :
    getNumSamples info num = if info &&& 0xC0#8 ≠ 0#8 then 1 <<< (num &&& 0xFF#16).toNat else num.toNat := by
  simp only [getNumSamples, and_diffFlag_ne_zero_iff, hdrLog2_toNat]

/-- A header byte with its template flag set. -/
theorem or_templateFlag (info : Byte) : info ||| 0x20#8 = hdrDiff info ++ 1#1 ++ hdrRateFull info := by
  have absorbed : ∀ t : BitVec 1, t ||| 1#1 = 1#1 := by decide
  calc
    info ||| 0x20#8 = (hdrDiff info ++ hdrTmpl info ++ hdrRateFull info) ||| (0#2 ++ 1#1 ++ 0#5) := by
      rw [header_fields]; rfl
    _ = hdrDiff info ++ 1#1 ++ hdrRateFull info := by
      rw [BitVec.or_append, BitVec.or_append, BitVec.or_zero, BitVec.or_zero, absorbed]

/-- The template flag of a diff header is an ignored bit (30_encoding R103, 40_cycle_header R122). -/
theorem decodeHeader_or_templateFlag {info : Byte} (diff : info &&& 0xC0#8 ≠ 0#8) (num : BitVec 16) :
    decodeHeader (info ||| 0x20#8) num = decodeHeader info num := by
  have flag : hdrDiff info ≠ 0#2 := and_diffFlag_ne_zero_iff.1 diff
  rw [or_templateFlag, decodeHeader_of_diff (by rwa [hdrDiff_append]), decodeHeader_of_diff flag, hdrDiff_append,
    hdrRateFull_append]

/-- A log2 count above 12 is more than a block can hold (40_cycle_header R124). -/
theorem block_lt_getNumSamples {info : Byte} {num : BitVec 16} (diff : info &&& 0xC0#8 ≠ 0#8)
    (large : 13 ≤ (num &&& 0xFF#16).toNat) : 4096 < getNumSamples info num := by
  rw [getNumSamples_eq_mask, if_pos diff, Nat.one_shiftLeft]
  calc
    4096 < 2 ^ 13 := by decide
    _ ≤ 2 ^ (num &&& 0xFF#16).toNat := Nat.pow_le_pow_right (by decide) large

/-- The examples of 40_cycle_header R121 and R122. -/
theorem State.headerFlag_examples (s : State) :
    (s.hdrInfo = 0x44#8 ∨ s.hdrInfo = 0x84#8 ∨ s.hdrInfo = 0xC4#8 → s.isDiff = true) ∧
    (s.hdrInfo = 0x24#8 ∨ s.hdrInfo = 0x04#8 → s.isDiff = false) ∧ (s.hdrInfo = 0x24#8 → s.isTemplate = true) ∧
    (s.hdrInfo = 0x04#8 → s.isTemplate = false) ∧ (s.hdrInfo = 0x64#8 → s.isTemplate = true ∧ s.isDiff = true) := by
  rw [s.isDiff_eq_mask, s.isTemplate_eq_mask]
  refine ⟨?_, ?_, fun h => ?_, fun h => ?_, fun h => ?_⟩
  · rintro (h | h | h) <;> rw [h] <;> rfl
  · rintro (h | h) <;> rw [h] <;> rfl
  all_goals rw [h]
  exacts [rfl, rfl, ⟨rfl, rfl⟩]

/-- Settles O4: each accessor is its mask, and the examples are evaluated. -/
theorem headerAccessors : Obligations.HeaderAccessors :=
  ⟨fun s => ⟨s.isDiff_eq_mask, s.isTemplate_eq_mask⟩, getBitRate_toNat, getNumSamples_eq_mask,
    fun _ num diff => decodeHeader_or_templateFlag diff num, fun _ _ => block_lt_getNumSamples, State.headerFlag_examples,
    by decide⟩

end Sys2Proof.Machine
end

section
/-!
SUPPORT. Packed runs (41_bitrate_unpack R140 to R162). A payload is one integer and a field is a bit vector cut out of it
(`fieldBits`); an unpacked value is that vector, sign-extended (`unpackValue_eq_signExtend`). The closed form, the byte layouts
and the round trip are then facts about the field.
-/

namespace Sys2Proof.Machine

open Sys2Proof.Claims

/-! ### `byteAmount` -/

/-- The bytes of a run hold its bits, with less than a byte to spare (41_bitrate_unpack R141). -/
theorem byteAmount_bounds (r c : Nat) : r * c ≤ 8 * byteAmount r c ∧ 8 * byteAmount r c < r * c + 8 := by
  unfold byteAmount
  omega

/-- Settles O17: both bounds on the result follow from the rounding and the bound on the product. -/
theorem byteAmountRoundsUp : Obligations.ByteAmountRoundsUp := by
  refine ⟨fun r c => ⟨rfl, byteAmount_bounds r c⟩, fun r c rate count => ?_, fun c => ?_, fun r => ?_, by decide⟩
  · have bits : r * c ≤ 16 * 4096 := Nat.mul_le_mul rate count
    have ⟨_, rounded⟩ := byteAmount_bounds r c
    unfold Config.stageBytes
    omega
  · rw [byteAmount, Nat.zero_mul]
  · rw [byteAmount, Nat.mul_zero]

/-! ### The payload and its fields -/

/-- The payload is little-endian with the least significant bit of a byte first (20_memory R69). -/
theorem testBit_payloadInteger (src : List Byte) (t : Nat) : (payloadInteger src).testBit t = payloadBit src t := by
  induction src generalizing t with
  | nil => simp [payloadInteger, payloadBit]
  | cons b bs ih =>
    rw [payloadInteger, Nat.add_comm, show 256 = 2 ^ 8 from rfl, Nat.testBit_two_pow_mul_add _ b.isLt]
    split
    case isTrue first => rw [payloadBit, Nat.div_eq_of_lt first, Nat.mod_eq_of_lt first]; rfl
    case isFalse later =>
      obtain ⟨u, rfl⟩ := Nat.exists_eq_add_of_le' (Nat.not_lt.1 later)
      rw [Nat.add_sub_cancel, ih, payloadBit, payloadBit, Nat.add_mod_right, Nat.add_div_right u (by decide)]
      rfl

/-- The field of `width` bits at payload bit `start` (41_bitrate_unpack R143). -/
def fieldBits (src : List Byte) (start width : Nat) : BitVec width := BitVec.ofNat width (payloadInteger src >>> start)

theorem getLsbD_fieldBits (src : List Byte) (start width b : Nat) :
    (fieldBits src start width).getLsbD b = (decide (b < width) && payloadBit src (start + b)) := by
  rw [fieldBits, BitVec.getLsbD_ofNat, Nat.testBit_shiftRight, testBit_payloadInteger]

/-- The number put together bit by bit is the field. -/
theorem packedField_eq_toNat (src : List Byte) (start width : Nat) :
    packedField src start width = (fieldBits src start width).toNat := by
  rw [fieldBits, BitVec.toNat_ofNat]
  induction width with
  | zero => rw [packedField, Nat.pow_zero, Nat.mod_one]
  | succ width ih =>
    rw [packedField, ih, Nat.mod_pow_succ, ← Nat.toNat_testBit, Nat.testBit_shiftRight, testBit_payloadInteger, Nat.mul_comm]

/-- The two's-complement value of a field by the test of R143. -/
theorem toInt_eq_ite_of_pos {r : Nat} (pos : 1 ≤ r) (f : BitVec r) :
    f.toInt = if f.toNat < 2 ^ (r - 1) then (f.toNat : Int) else f.toNat - 2 ^ r := by
  obtain ⟨m, rfl⟩ := Nat.exists_eq_add_of_le' pos
  have half : 2 * f.toNat < 2 ^ (m + 1) ↔ f.toNat < 2 ^ m := by omega
  simp only [BitVec.toInt_eq_toNat_cond, half, Nat.add_sub_cancel, Nat.cast_pow, Nat.cast_ofNat]

/-- `sext_16` is the sign extension of bit vectors (00_scope R8). -/
theorem signExtendField_toNat {r : Nat} (pos : 1 ≤ r) (f : BitVec r) : signExtendField r f.toNat = f.signExtend 16 := by
  rw [signExtendField, BitVec.signExtend, toInt_eq_ite_of_pos pos, ← BitVec.ofInt_natCast, apply_ite (BitVec.ofInt 16)]

/-- An unpacked value is its field, sign-extended (41_bitrate_unpack R143, R161). -/
theorem unpackValue_eq_signExtend (r : Nat) (src : List Byte) (i : Nat) :
    unpackValue r src i = (fieldBits src (i * r) r).signExtend 16 := by
  obtain rfl | pos := Nat.eq_zero_or_pos r
  · rw [BitVec.signExtend, BitVec.toInt_zero_length]; rfl
  · rw [unpackValue, if_neg pos.ne', packedField_eq_toNat, signExtendField_toNat pos]

/-- A value of a run. -/
theorem unpackRun_getElem? {r c i : Nat} (h : i < c) (src : List Byte) :
    (unpackRun r c src)[i]? = some ((fieldBits src (i * r) r).signExtend 16) := by
  rw [unpackRun, List.getElem?_map, List.getElem?_range h, Option.map_some, unpackValue_eq_signExtend]

/-! ### The closed form -/

/-- The closed form is the two's-complement value of the field (41_bitrate_unpack R143). -/
theorem closedValue_eq_toInt (r : Nat) (src : List Byte) (i : Nat) :
    closedValue r src i = (fieldBits src (i * r) r).toInt := by
  obtain rfl | pos := Nat.eq_zero_or_pos r
  · rw [BitVec.toInt_zero_length]; rfl
  · rw [closedValue, if_neg pos.ne', toInt_eq_ite_of_pos pos, fieldBits, BitVec.toNat_ofNat]

/-- At a legal rate the sign extension keeps the value (41_bitrate_unpack R161). -/
theorem unpackRun_toInt {r c i : Nat} (rate : r ≤ 16) (h : i < c) (src : List Byte) :
    ((unpackRun r c src)[i]?).map BitVec.toInt = some (closedValue r src i) := by
  rw [unpackRun_getElem? h, Option.map_some, BitVec.toInt_signExtend_of_le rate, closedValue_eq_toInt]

/-- Settles O12: the range is that of a bit vector of the rate's width. -/
theorem unpackIsIntegerFormula : Obligations.UnpackIsIntegerFormula := by
  refine fun r c src rate => ⟨unpackRun_length r c src, fun i h => ⟨unpackRun_toInt rate h src, ?_, fun _ => ?_⟩⟩
  · rintro rfl
    rfl
  · rw [closedValue_eq_toInt]
    exact ⟨BitVec.le_toInt _, Int.le_sub_one_of_lt BitVec.toInt_lt⟩

/-! ### The unpacker rows -/

/-- The bits of the first bytes of a payload. -/
theorem payloadBit_take {n t : Nat} (h : t < 8 * n) (src : List Byte) : payloadBit (src.take n) t = payloadBit src t := by
  have within : t / 8 < n := Nat.div_lt_of_lt_mul h
  simp only [payloadBit, List.getD_eq_getElem?_getD, List.getElem?_take, if_pos within]

/-- A run is read from the bytes of its length (41_bitrate_unpack R142). -/
theorem unpackRun_take (r c : Nat) (src : List Byte) : unpackRun r c (src.take (byteAmount r c)) = unpackRun r c src :=
  unpackRun_congr fun _ ht => payloadBit_take (ht.trans_le (byteAmount_bounds r c).1) src

/-- An unpacker completes wherever the buffers are allocated (41_bitrate_unpack R142). -/
theorem State.unpack_of_ready {s : State} (ready : s.ready = true) (r : Nat) :
    s.unpack r = .next (if s.job.sub = .template then s.setBase (s.unpacked r) else s.setWork (s.unpacked r)) := by
  rw [State.unpack_eq_next]
  refine ⟨ready, ?_⟩
  split
  case isTrue template => exact .inl ⟨template, rfl⟩
  case isFalse other => exact .inr ⟨other, rfl⟩

/-- A row that runs the unpacker of a legal rate completes with the values of the closed form. -/
theorem unpackerCompletes_of_exec {i : Instr} {r : Nat} (rate : r ≤ 16) (run : ∀ s, exec i s = s.unpack r) :
    UnpackerCompletes i r := by
  refine fun s ready => ⟨s.unpacked r, s.unpacked_length r, fun j hj => ?_, ?_⟩
  · rw [State.unpacked, ← unpackRun_take, unpackRun_toInt rate hj]
  · rw [run, State.unpack_of_ready ready, State.setBase, State.setWork, overwrite, overwrite, State.unpacked_length]

/-- Settles O13: each row runs the unpacker of its own rate. -/
theorem unpackerRowsComplete : Obligations.UnpackerRowsComplete := by
  refine ⟨?_, ?_, ?_, ?_, ?_, ?_, ?_, ?_, ?_, ?_, ?_, ?_, ?_, ?_, ?_, ?_, ?_⟩ <;>
    exact unpackerCompletes_of_exec (by decide) fun _ => rfl

/-! ### The byte layouts -/

/-- Where `group` fields fill a byte, a field is a slice of its byte (41_bitrate_unpack R145, R146, R148, R152). -/
theorem fieldBits_of_group {r group : Nat} (fill : r * group = 8) (src : List Byte) (i : Nat) :
    fieldBits src (i * r) r = (src.getD (i / group) 0#8).extractLsb' (r * (i % group)) r := by
  have groups : 0 < group := Nat.pos_of_ne_zero (by rintro rfl; omega)
  have fits : r * (i % group) + r ≤ 8 := fill ▸ Nat.mul_le_mul_left r (Nat.mod_lt i groups)
  have position : i * r = 8 * (i / group) + r * (i % group) := by
    rw [← fill, Nat.mul_assoc, ← Nat.mul_add, Nat.div_add_mod, Nat.mul_comm]
  refine BitVec.eq_of_getLsbD_eq fun b hb => ?_
  have byte : (i * r + b) / 8 = i / group := by omega
  have bit : (i * r + b) % 8 = r * (i % group) + b := by omega
  rw [getLsbD_fieldBits, BitVec.getLsbD_extractLsb', payloadBit, byte, bit]
  rfl

/-- A field of eight bits is a byte (41_bitrate_unpack R152). -/
theorem fieldBits_byte (src : List Byte) (q : Nat) : fieldBits src (q * 8) 8 = src.getD q 0#8 := by
  rw [fieldBits_of_group (group := 1) rfl, Nat.div_one, Nat.mod_one, BitVec.extractLsb'_eq_self]

/-- The upper bits of a field are the field after its lower bits. -/
theorem fieldBits_add (src : List Byte) (start low high : Nat) :
    fieldBits src start (high + low) = fieldBits src (start + low) high ++ fieldBits src start low := by
  refine BitVec.eq_of_getLsbD_eq fun b hb => ?_
  rw [BitVec.getLsbD_append]
  split
  case isTrue lower => simp only [getLsbD_fieldBits, lower, hb]
  case isFalse upper =>
    have position : start + low + (b - low) = start + b := by omega
    have within : b - low < high := by omega
    simp only [getLsbD_fieldBits, position, within, hb]

/-- A field of 16 bits is a little-endian pair (41_bitrate_unpack R160). -/
theorem fieldBits_pair (src : List Byte) (i : Nat) :
    fieldBits src (i * 16) 16 = src.getD (2 * i + 1) 0#8 ++ src.getD (2 * i) 0#8 := by
  have position : i * 16 = 2 * i * 8 := by omega
  rw [position, fieldBits_add src _ 8 8, ← Nat.succ_mul, fieldBits_byte, fieldBits_byte]

/-- The value of a single bit is its sign (41_bitrate_unpack R145). -/
theorem toInt_extractLsb'_one {w : Nat} (x : BitVec w) (b : Nat) :
    (x.extractLsb' b 1).toInt = if x.getLsbD b then -1 else 0 := by
  have sign : ∀ f : BitVec 1, f.toInt = if f.getLsbD 0 then -1 else 0 := by decide
  rw [sign, BitVec.getLsbD_extractLsb']
  rfl

/-- Settles O14: 8, 4, 2 or 1 fields fill a byte at the rates 1, 2, 4 and 8, and a field of rate 16 is two bytes. -/
theorem unpackByteLayouts : Obligations.UnpackByteLayouts := by
  intro c i src h
  simp only [unpackRun_getElem? h]
  refine ⟨?_, ?_, ?_, ?_, ?_, ?_⟩
  · rw [BitVec.signExtend, BitVec.toInt_zero_length]; rfl
  · rw [Option.map_some, BitVec.toInt_signExtend_of_le (by decide), fieldBits_of_group (group := 8) rfl,
      toInt_extractLsb'_one, Nat.one_mul]
  · rw [fieldBits_of_group (group := 4) rfl]
  · rw [fieldBits_of_group (group := 2) rfl]
  · rw [fieldBits_byte]
  · rw [fieldBits_pair, BitVec.signExtend_eq_setWidth_of_le _ le_rfl, BitVec.setWidth_eq]

/-! ### The round trip -/

/-- A sample in the range of the rate is the sign extension of its low bits (41_bitrate_unpack R162). -/
theorem signExtend_setWidth_of_range {r : Nat} {v : Sample} (pos : 1 ≤ r) (rate : r ≤ 16)
    (range : -(2 : Int) ^ (r - 1) ≤ v.toInt ∧ v.toInt ≤ 2 ^ (r - 1) - 1) : (v.setWidth r).signExtend 16 = v := by
  refine BitVec.eq_of_toInt_eq ?_
  rw [BitVec.toInt_signExtend_of_le rate, ← BitVec.signExtend_eq_setWidth_of_le v rate,
    BitVec.toInt_signExtend_eq_toInt_bmod_of_le v rate]
  obtain ⟨m, rfl⟩ := Nat.exists_eq_add_of_le' pos
  rw [Nat.add_sub_cancel] at range
  refine Int.bmod_eq_of_le ?_ ?_ <;> push_cast <;> omega

/-- Settles O15: the field of a packed value is its low bits. -/
theorem packedValuesRoundTrip : Obligations.PackedValuesRoundTrip := by
  intro r vs src pos rate range packed
  refine List.ext_getElem? fun i => ?_
  obtain h | h := Nat.lt_or_ge i vs.length
  · have field : fieldBits src (i * r) r = vs[i].setWidth r := BitVec.eq_of_getLsbD_eq fun b hb => by
      rw [getLsbD_fieldBits, packed i b h hb, BitVec.getLsbD_setWidth, List.getD_eq_getElem vs _ h]
    rw [unpackRun_getElem? h, field, signExtend_setWidth_of_range pos rate (range _ (List.getElem_mem h)),
      List.getElem?_eq_getElem h]
  · rw [List.getElem?_eq_none h, List.getElem?_eq_none ((unpackRun_length _ _ src).trans_le h)]

/-! ### The selection -/

/-- A header with an illegal rate is rejected for it, whatever its count (43_loop_control R194 steps 2 and 3). -/
theorem State.headerError_of_illegalRate {rateFull rateErr : BitVec 5} (illegal : 16 < rateFull.toNat ∨ 16 < rateErr.toNat)
    (count : Option Nat) (s : State) : s.headerError rateFull rateErr count = some .bitRate := by
  unfold State.headerError Config.maxRate
  obtain full | err := illegal
  · rw [if_pos full]
  · rw [if_pos err, ite_self]

/-- Settles O7: the table is evaluated; an illegal rate is an error of the header. -/
theorem rateSelectsUnpacker : Obligations.RateSelectsUnpacker :=
  ⟨rfl, rfl, rfl, rfl, rfl, rfl, rfl, rfl, rfl, rfl, rfl, rfl, rfl, rfl, rfl, rfl, rfl,
    fun r s legal => ⟨selectForBitRate_of_legal legal s, exec_decodeRate r s⟩,
    fun _ _ _ count s illegal => State.runCycle_of_error (State.headerError_of_illegalRate illegal count s)⟩

end Sys2Proof.Machine
end

section
/-!
SUPPORT. The session commands (42_session_commands): what each leaves, and which of the entry checks of DECODE decides.
-/

namespace Sys2Proof.Machine

open Sys2Proof.Claims

/-! ### SETUP and RESET -/

/-- Settles O32: SETUP is the allocation and the clearing of the session. -/
theorem setupInitialises : Obligations.SetupInitialises := fun s =>
  ⟨s.allocate.clearSession, rfl, freeStage_length s.draws 0 Config.stageBytes, rfl⟩

/-- Settles O33: RESET is the release and the clearing of the session. -/
theorem resetReleases : Obligations.ResetReleases := fun _ => rfl

/-- Once the session is cleared every register but `STATUS` reads 0 (42_session_commands R172, R173). -/
theorem State.readRegister_clearSession {addr : Nat} (notStatus : addr ≠ 5) (s : State) :
    s.clearSession.readRegister addr = 0#32 := by
  unfold State.readRegister
  split
  case h_1 => exact absurd rfl notStatus
  case h_6 => exact State.perfWord_of_nil rfl
  all_goals rfl

/-- Settles O34: SETUP clears the session, and on a core right after reset that clearing changes nothing. -/
theorem resetThenSetupIsFresh : Obligations.ResetThenSetupIsFresh := by
  intro s
  refine ⟨s.release.clearSession.allocate.clearSession, rfl, fun addr notStatus => ?_⟩
  have cleared : State.reset.clearSession = State.reset := rfl
  rw [State.readRegister_clearSession notStatus, ← cleared, State.readRegister_clearSession notStatus]

/-! ### DECODE -/

/-- Where every entry check passes, DECODE starts its loop (42_session_commands R174). -/
theorem exec_decode_of_accepted {s : State} (accepted : s.entryError = none) : exec .decode s = .next s.startDecode := by
  change execDecode s = _
  rw [execDecode, accepted]

/-- Where an entry check fails, DECODE is refused with its code (42_session_commands R174, 60_exceptions R251). -/
theorem exec_decode_of_refused {s : State} {e : ErrorCode} (failed : s.entryError = some e) :
    exec .decode s = .next (s.refuseEntry e) := by
  change execDecode s = _
  rw [execDecode, failed]

/-- A negative request means the capacity, which meets the capacity check (42_session_commands R174 steps 5 and 6). -/
theorem State.resolvedRequest_le {s : State}
    (request : s.argNumSamples.toInt < 0 ∨ s.argNumSamples.toNat ≤ s.argDestCap.toNat) :
    s.resolvedRequest.toNat ≤ s.argDestCap.toNat := by
  unfold State.resolvedRequest
  split
  case isTrue => exact le_rfl
  case isFalse nonneg => exact request.resolve_left nonneg

/-- Settles O35: all entry checks pass. -/
theorem decodeAccepted : Obligations.DecodeAccepted := fun _ noFault ready channels capacity request offset =>
  exec_decode_of_accepted
    (State.entryError_eq_none.2 ⟨noFault, ready, channels, capacity, State.resolvedRequest_le request, offset⟩)

/-- Settles O36: in each clause the checks before the failing one pass. -/
theorem decodeRefusedInOrder : Obligations.DecodeRefusedInOrder := by
  intro s refused req
  have refuses (e : ErrorCode) (failed : s.entryError = some e) : refused e.code := exec_decode_of_refused failed
  unfold State.entryError at refuses
  refine ⟨?faulted, ?notSetUp, ?channels, ?capacity, ?request, ?offset⟩
  case faulted =>
    intro fault
    exact refuses .faulted (if_pos fault)
  case notSetUp =>
    intro noFault notReady
    exact refuses .notSetUp (by simp [noFault, notReady])
  case channels =>
    intro noFault ready notMono notStereo
    exact refuses .badRequest (by simp [noFault, ready, notMono, notStereo])
  case capacity =>
    intro noFault ready channels (tooLarge : Config.destCapLimit ≤ s.argDestCap.toNat)
    exact refuses .badRequest (by simp [noFault, ready, channels, tooLarge])
  case request =>
    intro noFault ready channels _ (tooMany : s.argDestCap.toNat < s.resolvedRequest.toNat)
    exact refuses .badRequest (by simp [noFault, ready, channels, tooMany])
  case offset =>
    intro noFault ready channels (capacity : s.argDestCap.toNat < Config.destCapLimit)
      (request : s.resolvedRequest.toNat ≤ s.argDestCap.toNat) mismatch
    exact refuses .offsetMismatch (by simp [noFault, ready, channels, capacity.not_ge, request.not_gt, mismatch])

/-! ### The reserved code, and a command while Active -/

/-- Settles O37: the reserved code is refused as a failed entry check is. -/
theorem reservedCommandReports : Obligations.ReservedCommandReports := fun _ => rfl

/-- Settles O38: the port serves the write and drops it. -/
theorem commandDroppedWhileActive : Obligations.CommandDroppedWhileActive := fun _ w active port =>
  (step_of_port port).trans (servePort_command_active w active)

end Sys2Proof.Machine
end

section
/-!
SUPPORT. A DECODE from its command to its end: what a step of the loop controller does where its test is known
(43_loop_control), a TEMPLATE cycle with its payload there (44_reconstruct R212), and the run that puts them together.
-/

namespace Sys2Proof.Machine

open Sys2Proof.Claims

/-! ### Running -/

/-- A run goes on from where its first step leads. -/
theorem run_succ {M : Host.Core} {s t : M.State} (next : M.step s = .next t) (k : Nat) : M.run (k + 1) s = M.run k t := by
  rw [Host.Core.run, next]

theorem core_run_succ {s t : State} (next : step s = .next t) (k : Nat) : core.run (k + 1) s = core.run k t :=
  run_succ (M := core) next k

/-! ### The command and the loop controller -/

/-- The core once the write that starts a DECODE is served (42_session_commands R174). -/
def State.started (s : State) : State := { s with port := none }.startDecode

/-- A write of the code of DECODE to `CMD` that passes the entry checks starts the loop (42_session_commands R174). -/
theorem step_startsDecode {s : State} {w : Word} (idle : s.state = .idle) (port : s.port = some (.write 0 w))
    (op : w.extractLsb' 0 2 = 2#2) (accepted : s.entryError = none) : step s = .next s.started := by
  have decoded : decodeCommand w = .decode := by rw [decodeCommand, op]; rfl
  rw [stepRunsCommandWord s w idle port, decoded]
  exact exec_decode_of_accepted accepted

/-- The block that the loop enters: its cursor at 0 and its quota set (43_loop_control R193). -/
def State.openBlock (s : State) : State :=
  { s with indexInBlock := 0#Config.cntW, numTodo := BitVec.ofNat Config.cntW s.quota, phase := .cycle }

/-- The quota of a block is what is left of the request, a block at most (43_loop_control R193). -/
theorem State.openBlock_numTodo_toNat (s : State) :
    s.openBlock.numTodo.toNat = min (s.reqSamples.toNat - s.readIndex.toNat) 4096 :=
  cursor_toNat_ofNat_of_le_block (min_le_right _ _)

/-- While the request is not met and a byte stands in the stream, the loop enters a block (43_loop_control R190, R193). -/
theorem step_opensBlock {s : State} (port : s.port = none) (active : s.state = .active) (phase : s.phase = .blockTest)
    (supplied : 0 < s.stream.length) (unmet : s.readIndex.toNat < s.reqSamples.toNat) : step s = .next s.openBlock := by
  have quota : ¬ BitVec.ofNat Config.cntW s.quota = 0#Config.cntW := fun zero => by
    have numTodo := s.openBlock_numTodo_toNat
    rw [State.openBlock, zero, BitVec.toNat_zero] at numTodo
    omega
  have tests : s.blockTest = s.enterBlock := by
    rw [State.blockTest, if_neg (Nat.not_le.2 unmet), State.streamAtEnd_of_byte supplied]
  rw [step_of_blockTest port active phase, tests, State.enterBlock]
  exact congrArg _ (if_neg quota)

/-- A block whose quota is met ends (43_loop_control R193, R195). -/
theorem step_endsBlock {s : State} (port : s.port = none) (active : s.state = .active) (phase : s.phase = .cycle)
    (filled : s.numTodo.toNat ≤ s.indexInBlock.toNat) : step s = .next s.endBlock := by
  rw [step_of_cycle port active phase]
  exact if_neg fun isOpen => absurd filled (Nat.not_le.2 (of_decide_eq_true isOpen))

/-- A request that is met ends the command (43_loop_control R190, R197). -/
theorem step_returns {s : State} (port : s.port = none) (active : s.state = .active) (phase : s.phase = .blockTest)
    (met : s.reqSamples.toNat ≤ s.readIndex.toNat) : step s = .next s.returnToHost := by
  rw [step_of_blockTest port active phase, State.blockTest, if_pos met]

/-! ### A TEMPLATE cycle -/

/-- Once its runs are unpacked, a cycle that fits completes by the write of its samples: its runs have consumed the payload, put
the samples into `base`, and changed nothing else but `work`, `stage` and the operands (44_reconstruct R211, 20_memory R67). -/
theorem convertRun_completes {s u : State} {n : Nat} {samples : List Sample} {payload rest : List Byte}
    (fits : CycleFits s n) (length : samples.length = n)
    (runs : u = { s with
      stream := rest
      spos := s.spos + payload.length
      stage := u.stage
      work := u.work
      base := samples ++ s.base.drop n
      job := u.job
      phase := .payload }) :
    ∃ t, u.convertRun n samples = .next t ∧ CycleDone s t n samples payload rest ∧
      t.work = u.work ∧ t.stage = u.stage := by
  have room : u.dstRoom n = true := by
    rw [runs]
    exact (State.dstRoom_iff n _).2 ⟨fits.channel, fits.space⟩
  obtain ⟨t, write⟩ : ∃ t, u.convertRun n samples = .next t := ⟨_, State.convertRun_eq_next.2 ⟨room, rfl⟩⟩
  have read := State.dstRead_convertRun write
  rw [length, runs] at read
  obtain ⟨-, written⟩ := State.convertRun_eq_next.1 write
  refine ⟨t, write, ⟨length, ?_, read⟩, ?_, ?_⟩
  · rw [written, runs]
  all_goals rw [written]

/-- A template cycle whose payload is consumed, staged and unpacked into `base` (44_reconstruct R210, R212). -/
def State.templateUnpacked (rate : BitVec 5) (n : Nat) (payload : List Byte) (s : State) : State :=
  let consumed := (s.startJob ⟨.template, rate, 0#5, n⟩).consume payload.length
  (consumed.setStage payload).setBase (unpackRun rate.toNat n payload)

/-- The fields of a template cycle whose payload is unpacked, written out. -/
theorem State.templateUnpacked_eq (rate : BitVec 5) (n : Nat) (payload : List Byte) (s : State) :
    s.templateUnpacked rate n payload = { s with
      stream := s.stream.drop payload.length
      spos := s.spos + payload.length
      stage := payload ++ s.stage.drop payload.length
      base := unpackRun rate.toNat n payload ++ s.base.drop n
      job := ⟨.template, rate, 0#5, n⟩
      phase := .payload } := by
  simp [State.templateUnpacked, State.setBase, State.setStage, State.consume, State.startJob, overwrite]

/-- With its payload there, a template cycle is unpacked and its samples are written (44_reconstruct R212). -/
theorem State.runCycle_template {s : State} {rate : BitVec 5} {n : Nat} {payload rest : List Byte}
    (legal : rate.toNat ≤ 16) (fits : CycleFits s n) (stream : s.stream = payload ++ rest)
    (length : payload.length = byteAmount rate.toNat n) :
    s.runCycle .template rate 0#5 (some n) =
      (s.templateUnpacked rate n payload).convertRun n (unpackRun rate.toNat n payload) := by
  let consumed := (s.startJob ⟨.template, rate, 0#5, n⟩).consume payload.length
  have unpack : selectForBitRate rate (consumed.setStage payload) = .next (s.templateUnpacked rate n payload) := by
    have staged : (consumed.setStage payload).unpacked rate.toNat = unpackRun rate.toNat n payload :=
      State.unpacked_setStage (s := consumed) length
    rw [selectForBitRate_of_legal legal]
    exact State.unpack_eq_next.2 ⟨fits.ready, .inl ⟨rfl, by rw [staged]; rfl⟩⟩
  have write := State.convertWrite_setBase (unpackRun rate.toNat n payload) (consumed.setStage payload)
  rw [unpackRun_length] at write
  rw [State.runCycle_of_legal (headerError_of_fits fits legal (Nat.zero_le _)),
    State.fetchUnpack_of_payload (s := s.startJob ⟨.template, rate, 0#5, n⟩) legal stream length, unpack,
    andThen_next, State.completeSub_template rfl]
  exact write

/-- A TEMPLATE cycle with its payload there completes, and leaves `work` alone (44_reconstruct R212). -/
theorem exec_template_of_payload {s : State} {rate : BitVec 5} {n : BitVec 16} {payload rest : List Byte}
    (legal : rate.toNat ≤ 16) (fits : CycleFits s n.toNat) (stream : s.stream = payload ++ rest)
    (length : payload.length = byteAmount rate.toNat n.toNat) :
    ∃ t, exec (.template rate n) s = .next t ∧ CycleDone s t n.toNat (unpackRun rate.toNat n.toNat payload) payload rest ∧
      t.work = s.work ∧ t.stage = payload ++ s.stage.drop payload.length := by
  have count : literalCount n = some n.toNat := literalCount_eq_some.2 ⟨fits.count.1, fits.count.2, rfl⟩
  have started : exec (.template rate n) s = s.runCycle .template rate 0#5 (some n.toNat) := count ▸ rfl
  have unpacked := s.templateUnpacked_eq rate n.toNat payload
  rw [stream, List.drop_left] at unpacked
  obtain ⟨t, write, done, work, stage⟩ := convertRun_completes (u := s.templateUnpacked rate n.toNat payload)
    fits (unpackRun_length _ _ _) (by rw [unpacked])
  have ran := started.trans ((State.runCycle_template legal fits stream length).trans write)
  refine ⟨t, ran, done, work.trans ?_, stage.trans ?_⟩
  all_goals rw [unpacked]

/-- A state whose header is consumed and latched (40_cycle_header R120). -/
def State.pastHeader (info : Byte) (num : BitVec 16) (rest : List Byte) (s : State) : State :=
  { s with stream := rest, spos := s.spos + 3, hdrInfo := info, hdrNum := num }

/-- At an open block whose stream starts with the header of a TEMPLATE cycle, that cycle runs (43_loop_control R194). -/
theorem step_runsTemplate {s : State} {rate : BitVec 5} {n : BitVec 16} {rest : List Byte} (port : s.port = none)
    (active : s.state = .active) (phase : s.phase = .cycle) (isOpen : s.indexInBlock.toNat < s.numTodo.toNat)
    (stream : s.stream = encode (.template rate n) ++ rest) :
    step s = exec (.template rate n) (s.pastHeader (0#2 ++ 1#1 ++ rate) n rest) := by
  have decoded : decodeHeader (0#2 ++ 1#1 ++ rate) n = .template rate n := by
    rw [decodeHeader_of_literal (hdrDiff_append _ _ _), hdrTmpl_append, hdrRateFull_append]
    rfl
  rw [step_of_openBlock port active phase isOpen, State.stepCycle_of_header stream, numByteOrder_extractLsb', decoded]
  rfl

/-! ### A whole DECODE -/

/-- A sample count fits a cursor. -/
theorem count_setWidth_toNat (n : BitVec 16) : (n.setWidth 32).toNat = n.toNat :=
  BitVec.toNat_setWidth_of_le (by decide)

/-- A sample count is its own request: it is not negative (42_session_commands R174 step 5). -/
theorem State.resolvedRequest_of_count {s : State} {n : BitVec 16} (request : s.argNumSamples = n.setWidth 32) :
    s.resolvedRequest = n.setWidth 32 := by
  have fits := n.isLt
  have value : (n.setWidth 32).toInt = (n.setWidth 32).toNat :=
    BitVec.toInt_eq_toNat_of_lt (by rw [count_setWidth_toNat]; omega)
  rw [State.resolvedRequest, request, value, if_neg (Int.natCast_nonneg _).not_gt]

theorem State.started_reqSamples_toNat {s : State} {n : BitVec 16} (request : s.argNumSamples = n.setWidth 32) :
    s.started.reqSamples.toNat = n.toNat :=
  (congrArg BitVec.toNat (State.resolvedRequest_of_count request)).trans (count_setWidth_toNat n)

/-- A request that a block holds is the quota of the first block (43_loop_control R193). -/
theorem State.firstBlock_numTodo_toNat {s : State} {n : BitVec 16} (request : s.argNumSamples = n.setWidth 32)
    (block : n.toNat ≤ 4096) : s.started.openBlock.numTodo.toNat = n.toNat := by
  rw [State.openBlock_numTodo_toNat, State.started_reqSamples_toNat request]
  exact min_eq_left block

/-- The first cycle of a DECODE, a TEMPLATE cycle past its header. -/
def State.firstTemplate (rate : BitVec 5) (n : BitVec 16) (rest : List Byte) (s : State) : State :=
  s.started.openBlock.pastHeader (0#2 ++ 1#1 ++ rate) n rest

/-- The cycle that meets a mono request fits its block and the destination (43_loop_control R194 step 5, 20_memory R66). -/
theorem cycleFits_firstTemplate {s : State} {rate : BitVec 5} {n : BitVec 16} {rest : List Byte} (buffers : s.BuffersOk)
    (ready : s.ready = true) (mono : s.argNumCh = 1#2) (request : s.argNumSamples = n.setWidth 32)
    (space : n.toNat ≤ s.argDestCap.toNat) (count : 1 ≤ n.toNat ∧ n.toNat ≤ 4096) :
    CycleFits (s.firstTemplate rate n rest) n.toNat where
  ready := ready
  base := (buffers.allocated ready).1
  count := count
  room := (Nat.zero_add _).trans_le (State.firstBlock_numTodo_toNat request count.2).ge
  channel := show (0#1).toNat < s.argNumCh.toNat by rw [mono]; decide
  space := (Nat.zero_add _).trans_le space

section

variable {s t : State} {rate : BitVec 5} {n : BitVec 16} {samples : List Sample} {payload rest : List Byte}
  (done : CycleDone (s.firstTemplate rate n (payload ++ rest)) t n.toNat samples payload rest)
include done

/-- After the first cycle the cursor stands at its count (44_reconstruct R211). -/
theorem indexInBlock_of_firstTemplate : t.indexInBlock = n.setWidth 32 := by
  have moved : t.indexInBlock = 0#32 + BitVec.ofNat 32 n.toNat := congrArg State.indexInBlock done.frame
  rw [moved, BitVec.zero_add, BitVec.ofNat_toNat]

/-- The end of a mono block counts its samples (43_loop_control R195). -/
theorem endBlock_readIndex_of_firstTemplate (mono : s.argNumCh = 1#2) : t.endBlock.readIndex = n.setWidth 32 := by
  have chan : t.chan = 0#1 := congrArg State.chan done.frame
  have numCh : t.numCh = 1#2 := (congrArg State.numCh done.frame).trans mono
  have lastChannel : (0#1).toNat + 1 = (1#2).toNat := rfl
  have readIndex : t.readIndex = 0#32 := congrArg State.readIndex done.frame
  rw [State.endBlock_readIndex, State.finishBlock_readIndex, chan, numCh, if_pos lastChannel, readIndex,
    indexInBlock_of_firstTemplate done, BitVec.zero_add]

/-- After the cycle that meets a mono request the block ends, and then the command (43_loop_control R190, R195, R197). -/
theorem run_after_firstTemplate (mono : s.argNumCh = 1#2) (request : s.argNumSamples = n.setWidth 32)
    (block : n.toNat ≤ 4096) : core.run 2 t = .next t.endBlock.returnToHost := by
  have frame := done.frame
  have port : t.port = none := congrArg State.port frame
  have active : t.state = .active := congrArg State.state frame
  have phase : t.phase = .cycle := congrArg State.phase frame
  have quota : t.numTodo = s.started.openBlock.numTodo := (congrArg State.numTodo frame).trans rfl
  have requested : t.endBlock.reqSamples = s.started.reqSamples := (congrArg State.reqSamples frame).trans rfl
  have filled : t.numTodo.toNat ≤ t.indexInBlock.toNat := by
    rw [quota, State.firstBlock_numTodo_toNat request block, indexInBlock_of_firstTemplate done, count_setWidth_toNat]
  have met : t.endBlock.reqSamples.toNat ≤ t.endBlock.readIndex.toNat := by
    rw [requested, State.started_reqSamples_toNat request, endBlock_readIndex_of_firstTemplate done mono, count_setWidth_toNat]
  calc core.run 2 t
    _ = core.run 1 t.endBlock := core_run_succ (step_endsBlock port active phase filled) 1
    _ = core.run 0 t.endBlock.returnToHost := core_run_succ (step_returns (s := t.endBlock) port active rfl met) 0

end

/-- A DECODE whose stream starts with a TEMPLATE cycle comes, through the command, the loop test and the header, to that cycle
(42_session_commands R174, 43_loop_control R190 to R194). -/
theorem run_to_firstTemplate {s t : State} {w : Word} {rate : BitVec 5} {n : BitVec 16} {rest : List Byte}
    (idle : s.state = .idle) (port : s.port = some (.write 0 w)) (op : w.extractLsb' 0 2 = 2#2)
    (accepted : s.entryError = none) (request : s.argNumSamples = n.setWidth 32) (count : 1 ≤ n.toNat ∧ n.toNat ≤ 4096)
    (stream : s.stream = encode (.template rate n) ++ rest)
    (cycle : exec (.template rate n) (s.firstTemplate rate n rest) = .next t) (k : Nat) :
    core.run (k + 3) s = core.run k t := by
  have supplied : 0 < s.started.stream.length := by
    change 0 < s.stream.length
    rw [stream]
    exact Nat.succ_pos _
  have unmet : 0 < s.started.reqSamples.toNat := count.1.trans_eq (State.started_reqSamples_toNat request).symm
  have isOpen : 0 < s.started.openBlock.numTodo.toNat :=
    count.1.trans_eq (State.firstBlock_numTodo_toNat request count.2).symm
  have header := step_runsTemplate (s := s.started.openBlock) rfl rfl rfl isOpen stream
  calc core.run (k + 3) s
    _ = core.run (k + 2) s.started := core_run_succ (step_startsDecode idle port op accepted) (k + 2)
    _ = core.run (k + 1) s.started.openBlock := core_run_succ (step_opensBlock rfl rfl rfl supplied unmet) (k + 1)
    _ = core.run k t := core_run_succ (header.trans cycle) k

/-- Settles O58: the cycle writes from sample 0 on, and what the run does before and after it changes no sample. -/
theorem oneCycleDecode : Obligations.OneCycleDecode := by
  intro s w rate n payload rest inv idle noFault ready port op mono offset request capacity space legal low high stream length
  have fits : s.resolvedRequest.toNat ≤ s.argDestCap.toNat := by
    rwa [State.resolvedRequest_of_count request, count_setWidth_toNat]
  have accepted : s.entryError = none :=
    State.entryError_eq_none.2 ⟨noFault, ready, .inl mono, capacity, fits, offset⟩
  obtain ⟨t, cycle, done, -⟩ := exec_template_of_payload (rest := rest) legal
    (cycleFits_firstTemplate inv.buffers ready mono request space ⟨low, high⟩) rfl length
  have run : core.run 5 s = .next t.endBlock.returnToHost :=
    (run_to_firstTemplate idle port op accepted request ⟨low, high⟩ stream cycle 2).trans
      (run_after_firstTemplate done mono request high)
  have frame := done.frame
  have counted := endBlock_readIndex_of_firstTemplate done mono
  refine ⟨t.endBlock.returnToHost, run, rfl, congrArg State.status frame, (congrArg State.fault frame).trans noFault,
    ?produced, ?offset, congrArg State.stream frame, congrArg State.spos frame, congrArg State.base frame, fun i => ?samples⟩
  case produced => rw [State.returnToHost_produced, counted, count_setWidth_toNat]
  case offset =>
    have readOffset : t.readOffset = s.readOffset := (congrArg State.readOffset frame).trans rfl
    rw [State.returnToHost_readOffset, State.endBlock_readOffset, counted, readOffset]
  case samples =>
    have start : (s.firstTemplate rate n (payload ++ rest)).writePos = 0 := rfl
    have chan : (s.firstTemplate rate n (payload ++ rest)).chan = 0#1 := rfl
    refine (done.written 0#1 i).trans ?_
    simp only [start, chan, Nat.zero_le, true_and, Nat.zero_add, Nat.sub_zero]
    rfl

end Sys2Proof.Machine
end

section
/-!
SUPPORT. The loop controller (43_loop_control): what its tests and the end of a block leave, the code of a header that is
rejected, and the end of every DECODE whose stream has one, by a measure that each of its steps lowers.
-/

namespace Sys2Proof.Machine

open Sys2Proof.Claims

/-! ### The loop tests -/

/-- Without instrumentation the return of a DECODE records nothing (43_loop_control R197, 60_exceptions R258). -/
theorem State.returnToHost_of_perfOff {s : State} (off : s.perfEnable = false) :
    s.returnToHost = { s with
      produced := s.readIndex, readOffset := s.readOffset + s.readIndex, state := .idle, phase := .blockTest } := by
  simp [State.returnToHost, State.recordThroughput, off]

/-- An unmet request at the end of the stream ends the command (43_loop_control R190, R192). -/
theorem step_exhausts {s : State} (port : s.port = none) (active : s.state = .active) (phase : s.phase = .blockTest)
    (unmet : s.readIndex.toNat < s.reqSamples.toNat) (empty : s.stream.length = 0) (ended : s.streamEnded = true) :
    step s = .next (s.setError .streamExhausted).returnToHost := by
  rw [step_of_blockTest port active phase, State.blockTest, if_neg (Nat.not_le.2 unmet),
    State.streamAtEnd_of_no_byte empty, if_pos ended]

/-- An unmet request waits for a byte or for the end of the stream (20_memory R64). -/
theorem step_awaitsStream {s : State} (port : s.port = none) (active : s.state = .active) (phase : s.phase = .blockTest)
    (unmet : s.readIndex.toNat < s.reqSamples.toNat) (empty : s.stream.length = 0) (notEnded : s.streamEnded = false) :
    step s = .next s := by
  rw [step_of_blockTest port active phase, State.blockTest, if_neg (Nat.not_le.2 unmet),
    State.streamAtEnd_of_no_byte empty, notEnded]
  rfl

/-- Settles O40: the request is tested before the stream, and neither return records anything. -/
theorem loopTests : Obligations.LoopTests := by
  intro s port active phase off returned
  refine ⟨fun met => ?met, fun unmet stream ended => ?exhausted, fun unmet stream notEnded => ?waits⟩
  case met =>
    refine (step_returns port active phase met).trans ?_
    simp [State.returnToHost_of_perfOff off, phase]
  case exhausted =>
    have offAfter : (s.setError .streamExhausted).perfEnable = false := off
    have code : ErrorCode.streamExhausted.code = 1#4 := rfl
    have noFault : ErrorCode.streamExhausted.structural = false := rfl
    refine (step_exhausts port active phase unmet (List.length_eq_zero_iff.2 stream) ended).trans ?_
    rw [State.returnToHost_of_perfOff offAfter]
    simp [State.setError, code, noFault, phase]
  case waits => exact step_awaitsStream port active phase unmet (List.length_eq_zero_iff.2 stream) notEnded

/-! ### The blocks -/

/-- Settles O41: the loop enters the open block. -/
theorem blockBegins : Obligations.BlockBegins := fun s port active phase some_byte unmet =>
  ⟨s.openBlock.numTodo, s.openBlock_numTodo_toNat,
    step_opensBlock port active phase (List.length_pos_iff.2 some_byte) unmet⟩

/-- Settles O42: in each clause the channel count and the channel decide both tests of the block's end. -/
theorem blockEnds : Obligations.BlockEnds := by
  intro s port active phase filled
  rw [step_endsBlock port active phase filled]
  unfold State.endBlock State.finishBlock
  refine ⟨fun numCh chan => ?mono, fun numCh chan => ?firstChannel, fun numCh chan => ?lastChannel⟩
  all_goals simp [numCh, chan]

/-! ### Rejected headers -/

section
variable {rateFull rateErr : BitVec 5} {s : State} (full : rateFull.toNat ≤ 16) (err : rateErr.toNat ≤ 16)
include full err

/-- With legal rates an illegal count is the error of the header (43_loop_control R194 step 4). -/
theorem State.headerError_of_illegalCount : s.headerError rateFull rateErr none = some .sampleCount := by
  unfold State.headerError Config.maxRate
  rw [if_neg (Nat.not_lt.2 full), if_neg (Nat.not_lt.2 err)]

/-- With legal rates and a legal count the error of the header is a count beyond the quota (43_loop_control R194 step 5). -/
theorem State.headerError_of_overflow {n : Nat} (overflow : s.numTodo.toNat < s.indexInBlock.toNat + n) :
    s.headerError rateFull rateErr (some n) = some .cursorOverflow := by
  unfold State.headerError Config.maxRate
  rw [if_neg (Nat.not_lt.2 full), if_neg (Nat.not_lt.2 err)]
  exact if_pos overflow

end

/-- A cycle whose header raises an error is aborted with its code (43_loop_control R194, 60_exceptions R250). -/
theorem aborted_of_headerError {i : Instr} {sub : SubStream} {rateFull rateErr : BitVec 5} {count : Option Nat} {s : State}
    (run : exec i s = s.runCycle sub rateFull rateErr count) {e : ErrorCode}
    (error : s.headerError rateFull rateErr count = some e) : ∃ t, exec i s = .next t ∧ Aborted e.code s t :=
  ⟨s.abort e, run.trans (State.runCycle_of_error error), aborted_abort e s⟩

/-- A row that runs a cycle is rejected by the first check that fails (43_loop_control R194 steps 2 to 5). -/
theorem headerRejected {i : Instr} {sub : SubStream} {rateFull rateErr : BitVec 5} {count : Option Nat} {countLegal : Prop}
    {n : Nat} {s : State} (run : exec i s = s.runCycle sub rateFull rateErr count)
    (legal : ∀ c, count = some c ↔ countLegal ∧ c = n) : HeaderRejected i rateFull rateErr countLegal n s := by
  refine ⟨fun full => ?full, fun _ err => ?err, fun full err illegal => ?count, fun full err isLegal overflow => ?quota⟩
  case full => exact aborted_of_headerError run (State.headerError_of_illegalRate (.inl full) count s)
  case err => exact aborted_of_headerError run (State.headerError_of_illegalRate (.inr err) count s)
  case count =>
    have noCount : count = none := Option.eq_none_iff_forall_ne_some.2 fun c isCount => illegal ((legal c).1 isCount).1
    exact aborted_of_headerError run (noCount ▸ State.headerError_of_illegalCount full err)
  case quota =>
    have hasCount : count = some n := (legal n).2 ⟨isLegal, rfl⟩
    exact aborted_of_headerError run (hasCount ▸ State.headerError_of_overflow full err overflow)

/-- Settles O27: each row runs a cycle whose count is the one its kind of header names, where that is legal. -/
theorem illegalHeadersRejected : Obligations.IllegalHeadersRejected := by
  intro s
  refine ⟨fun rate n => ?_, fun rateFull rateErr k => ?_⟩
  · have legal (c : Nat) : literalCount n = some c ↔ (1 ≤ n.toNat ∧ n.toNat ≤ 4096) ∧ c = n.toNat :=
      literalCount_eq_some.trans and_assoc.symm
    exact ⟨headerRejected rfl legal, headerRejected rfl legal⟩
  · have legal (c : Nat) : log2Count k = some c ↔ k.toNat ≤ 12 ∧ c = 2 ^ k.toNat := log2Count_eq_some
    exact ⟨headerRejected rfl legal, headerRejected rfl legal, headerRejected rfl legal⟩

/-! ### A cycle whose stream has an end -/

/-- The answer is a next state that is past its cycle: the command has ended, or the core stands between two cycles. -/
def Result.EndsCycle (r : Result) : Prop := ∃ t, r = .next t ∧ (t.state = .active → t.phase = .cycle)

theorem Result.endsCycle_abort (e : ErrorCode) (s : State) : Result.EndsCycle (.next (s.abort e)) :=
  ⟨s.abort e, rfl, RunState.noConfusion⟩

section InPayload
variable {s : State} (h : s.InPayload)
include h

theorem State.InPayload.convertRun_endsCycle (samples : List Sample) : (s.convertRun s.job.n samples).EndsCycle :=
  ⟨_, State.convertRun_eq_next.2 ⟨h.dstRoom, rfl⟩, fun _ => rfl⟩

theorem State.InPayload.setBase_convertWrite_endsCycle {vals : List Sample} (fits : vals.length ≤ Config.block) :
    ((s.setBase vals).convertWrite s.job.n).EndsCycle :=
  (h.setBase fits).convertRun_endsCycle _

/-- Once the end of the stream is declared a FetchUnpack does not wait: it aborts or goes on (20_memory R64, 44_reconstruct
R210). -/
theorem State.InPayload.fetchUnpack_endsCycle {rate : BitVec 5} {k : State → Result} (ended : s.streamEnded = true)
    (legal : rate.toNat ≤ Config.maxRate)
    (rest : ∀ u : State, u.InPayload → u.streamEnded = true → (k u).EndsCycle) :
    (s.fetchUnpack (selectForBitRate rate) k).EndsCycle := by
  obtain ⟨-, run⟩ | ⟨-, -, short⟩ | ⟨-, notEnded, -⟩ :=
    State.fetchUnpack_cases (unpacker := selectForBitRate rate) (k := k) h.rate_le
  · have staged := (h.consume (byteAmount s.job.rate.toNat s.job.count)).setStage
      ((List.length_take_le _ s.stream).trans h.byteAmount_le)
    obtain ⟨u, unpacked, inPayload⟩ := staged.selectForBitRate_next legal
    obtain ⟨-, -, -, endKept⟩ := (updates_selectForBitRate unpacked).readsFront
    rw [run, unpacked, andThen_next]
    exact rest u inPayload (endKept.trans ended)
  · exact short ▸ Result.endsCycle_abort _ _
  · exact absurd (ended.symm.trans notEnded) (by decide)

theorem State.InPayload.startError_endsCycle (ended : s.streamEnded = true) : s.startError.EndsCycle := by
  obtain ⟨full, err, positive, fits⟩ := h.activeOk.cycle h.phase
  have started : (s.startJob { s.job with sub := .error }).InPayload :=
    h.inv.startJob h.active (by rw [h.phase]; decide) full err positive fits
  exact started.fetchUnpack_endsCycle ended err fun _ inPayload _ =>
    inPayload.setBase_convertWrite_endsCycle inPayload.addRun_length_le

/-- The rest of a cycle, after whichever run was unpacked. -/
theorem State.InPayload.completeSub_endsCycle (ended : s.streamEnded = true) : s.completeSub.EndsCycle := by
  cases sub : s.job.sub with
  | template => exact State.completeSub_template sub ▸ h.convertRun_endsCycle _
  | delta => exact State.completeSub_delta sub ▸ h.setBase_convertWrite_endsCycle h.addRun_length_le
  | anchors =>
    have held : (holdAnchors (s.work.take (numAnchors s.job.n)) s.job.n).length ≤ Config.block :=
      (holdAnchors_length _ _).trans_le h.n_le
    rw [State.completeSub_anchors sub]
    split
    · exact h.setBase_convertWrite_endsCycle held
    · exact (h.setBase held).startError_endsCycle ended
  | error => exact State.completeSub_error sub ▸ h.setBase_convertWrite_endsCycle h.addRun_length_le

/-- A FetchUnpack that goes on once the end of the stream is declared ends its cycle (20_memory R64). -/
theorem State.InPayload.stepPayload_endsCycle (ended : s.streamEnded = true) : s.stepPayload.EndsCycle :=
  s.stepPayload_eq ▸ h.fetchUnpack_endsCycle ended h.rate_le fun _ inPayload => inPayload.completeSub_endsCycle

end InPayload

/-- A cycle that validation rejects aborts, and one that it passes ends (43_loop_control R194). -/
theorem State.Inv.runCycle_endsCycle {sub : SubStream} {rateFull rateErr : BitVec 5} {count : Option Nat} {s : State}
    (h : s.Inv) (active : s.state = .active) (phase : s.phase = .cycle) (ended : s.streamEnded = true)
    (positive : ∀ n, count = some n → 1 ≤ n) : (s.runCycle sub rateFull rateErr count).EndsCycle := by
  cases header : s.headerError rateFull rateErr count with
  | some code => exact State.runCycle_of_error header ▸ Result.endsCycle_abort code s
  | none =>
    obtain ⟨full, err, n, rfl, fits⟩ := State.headerError_eq_none.1 header
    have started : (s.startJob ⟨sub, rateFull, rateErr, n⟩).InPayload :=
      h.startJob active (by rw [phase]; decide) full err (positive n rfl) fits
    rw [State.runCycle_of_legal header]
    exact started.fetchUnpack_endsCycle ended full fun _ inPayload => inPayload.completeSub_endsCycle

/-! ### A running DECODE whose stream has an end -/

/-- A DECODE runs, the end of its stream is declared, and no register access stands at the port. -/
structure State.RunsToEnd (s : State) : Prop where
  inv : s.Inv
  active : s.state = .active
  ended : s.streamEnded = true
  port : s.port = none

/-- The core presents no register access to itself (10_state R34). -/
theorem Update.port_eq_none {s t : State} (h : Update s t) (port : s.port = none) : t.port = none := by
  cases h with
  | takeAccess => rfl
  | convertRun next =>
    obtain ⟨-, rfl⟩ := State.convertRun_eq_next.1 next
    exact port
  | _ => exact port

theorem Updates.port_eq_none {s t : State} (h : Updates s t) (port : s.port = none) : t.port = none := by
  induction h with
  | refl => exact port
  | tail _ update ih => exact update.port_eq_none ih

/-! The measure of 43_loop_control R198, phase by phase. -/

theorem State.workLeft_of_blockTest {s : State} (phase : s.phase = .blockTest) :
    s.workLeft = 3 * s.stream.length + 1 := by
  rw [State.workLeft, phase]

theorem State.workLeft_of_cycle {s : State} (phase : s.phase = .cycle) :
    s.workLeft = 3 * s.stream.length + if s.blockOpen then 0 else 2 := by
  rw [State.workLeft, phase]

theorem State.workLeft_of_payload {s : State} (phase : s.phase = .payload) : s.workLeft = 3 * s.stream.length + 3 := by
  rw [State.workLeft, phase]

/-- Between two cycles less is left than in a payload read with as many bytes unread. -/
theorem State.workLeft_le_of_cycle {s : State} (phase : s.phase = .cycle) : s.workLeft ≤ 3 * s.stream.length + 2 := by
  rw [State.workLeft_of_cycle phase]
  split <;> omega

/-- Reading the front of the stream leaves no more unread bytes than there were. -/
theorem ReadsFront.length_le {s t : State} (h : ReadsFront s t) : t.stream.length ≤ s.stream.length := by
  obtain ⟨used, stream, -, -⟩ := h
  rw [stream, List.length_append]
  exact Nat.le_add_left _ _

/-- The step from `s` answers a next state, in which the command has ended or less work is left. -/
def LowersWork (s : State) : Prop := ∃ t, step s = .next t ∧ (t.state = .active → t.workLeft < s.workLeft)

section RunsToEnd
variable {s : State} (h : s.RunsToEnd)
include h

/-- A step that does not end the command keeps what its end rests on. -/
theorem State.RunsToEnd.of_step {t : State} (next : step s = .next t) (active : t.state = .active) : t.RunsToEnd := by
  obtain ⟨-, -, -, ended⟩ := streamNeverRewinds s t next
  obtain updates | ⟨a, w, port, -⟩ := updates_of_step next
  · exact ⟨stepKeepsInvariant s t h.inv next, active, ended.trans h.ended, updates.port_eq_none h.port⟩
  · exact absurd (h.port.symm.trans port) (Option.some_ne_none _).symm

/-- The loop tests return, or open a block (43_loop_control R190). -/
theorem State.RunsToEnd.lowersWork_of_blockTest (phase : s.phase = .blockTest) : LowersWork s := by
  rcases le_or_gt s.reqSamples.toNat s.readIndex.toNat with met | unmet
  · exact ⟨_, step_returns h.port h.active phase met, RunState.noConfusion⟩
  · rcases Nat.eq_zero_or_pos s.stream.length with empty | supplied
    · exact ⟨_, step_exhausts h.port h.active phase unmet empty h.ended, RunState.noConfusion⟩
    · refine ⟨_, step_opensBlock h.port h.active phase supplied unmet, fun _ => ?_⟩
      have isOpen : s.openBlock.blockOpen = true := by
        have quota := s.openBlock_numTodo_toNat
        have positive : 0 < s.openBlock.numTodo.toNat := by omega
        exact decide_eq_true positive
      rw [State.workLeft_of_cycle rfl, if_pos isOpen, State.workLeft_of_blockTest phase]
      exact Nat.lt_succ_self _

/-- A block whose quota is met ends (43_loop_control R195). -/
theorem State.RunsToEnd.lowersWork_of_closed (phase : s.phase = .cycle) (closed : s.blockOpen = false) : LowersWork s := by
  refine ⟨_, step_endsBlock h.port h.active phase (Nat.not_lt.1 (of_decide_eq_false closed)), fun _ => ?_⟩
  rw [State.workLeft_of_blockTest rfl, State.workLeft_of_cycle phase, closed]
  exact Nat.lt_succ_self _

/-- A cycle consumes its header at least (43_loop_control R194). -/
theorem State.RunsToEnd.lowersWork_of_open (phase : s.phase = .cycle) (isOpen : s.blockOpen = true) : LowersWork s := by
  have cycle := step_of_openBlock h.port h.active phase (of_decide_eq_true isOpen)
  obtain ⟨b0, b1, b2, rest, stream, -⟩ | ⟨short, -⟩ | ⟨-, notEnded, -⟩ := s.readCycleHeader_cases
  · obtain ⟨sub, rateFull, rateErr, count, positive, run⟩ := exec_decodeHeader b0 (numByteOrder b1 b2)
    have header := (cycle.trans (State.stepCycle_of_header stream)).trans (run _)
    have latched : (s.pastHeader b0 (numByteOrder b1 b2) rest).Inv := h.inv.congr rfl
    obtain ⟨t, next, ends⟩ := latched.runCycle_endsCycle (sub := sub) (rateFull := rateFull) (rateErr := rateErr)
      h.active phase h.ended positive
    have consumed : t.stream.length ≤ rest.length := (updates_runCycle next).readsFront.length_le
    refine ⟨t, header.trans next, fun active => ?_⟩
    have left := State.workLeft_le_of_cycle (ends active)
    rw [State.workLeft_of_cycle phase, if_pos isOpen, stream]
    simp only [List.length_cons]
    omega
  · exact ⟨_, cycle.trans (State.stepCycle_of_short short h.ended), RunState.noConfusion⟩
  · exact absurd (h.ended.symm.trans notEnded) (by decide)

/-- A FetchUnpack that goes on ends its cycle (44_reconstruct R210). -/
theorem State.RunsToEnd.lowersWork_of_payload (phase : s.phase = .payload) : LowersWork s := by
  have inPayload : s.InPayload := ⟨h.inv, h.active, phase⟩
  obtain ⟨t, payload, ends⟩ := inPayload.stepPayload_endsCycle h.ended
  have next := (step_of_payload h.port h.active phase).trans payload
  have consumed : t.stream.length ≤ s.stream.length := ReadsFront.length_le (streamNeverRewinds s t next)
  refine ⟨t, next, fun active => ?_⟩
  have left := State.workLeft_le_of_cycle (ends active)
  rw [State.workLeft_of_payload phase]
  omega

/-- Every step of a running DECODE whose stream has an end lowers the measure, or ends the command (43_loop_control R198). -/
theorem State.RunsToEnd.lowersWork : LowersWork s := by
  cases phase : s.phase with
  | blockTest => exact h.lowersWork_of_blockTest phase
  | cycle =>
    cases isOpen : s.blockOpen with
    | true => exact h.lowersWork_of_open phase isOpen
    | false => exact h.lowersWork_of_closed phase isOpen
  | payload => exact h.lowersWork_of_payload phase

end RunsToEnd

/-- A running DECODE whose stream has an end is over within a bound above its measure (43_loop_control R198). -/
theorem State.RunsToEnd.run_ends {w : Nat} {s : State} (h : s.RunsToEnd) (bound : s.workLeft < w) :
    ∃ k, k ≤ w ∧ ∃ t, core.run k s = .next t ∧ t.state = .idle := by
  induction w generalizing s with
  | zero => exact absurd bound (Nat.not_lt_zero _)
  | succ w ih =>
    obtain ⟨t, next, lower⟩ := h.lowersWork
    cases state : t.state with
    | idle => exact ⟨1, Nat.le_add_left 1 w, t, core_run_succ next 0, state⟩
    | active =>
      have less : t.workLeft < w := (lower state).trans_le (Nat.le_of_lt_succ bound)
      obtain ⟨k, steps, u, run, idle⟩ := ih (h.of_step next state) less
      exact ⟨k + 1, Nat.succ_le_succ steps, u, (core_run_succ next k).trans run, idle⟩

/-- Settles O57: each step lowers `workLeft` or ends the command. -/
theorem decodeEnds : Obligations.DecodeEnds := fun _ inv active ended port =>
  State.RunsToEnd.run_ends ⟨inv, active, ended, port⟩ (Nat.lt_succ_self _)

end Sys2Proof.Machine
end

section
/-!
SUPPORT. The reconstructor (44_reconstruct): its arithmetic, a run whose payload stands at the stream position, and the cycles
that complete or abort by it. A cycle is followed through its runs (`RunsRead`) up to the one write of its samples
(`setBase_convertWrite_completes`).
-/

namespace Sys2Proof.Machine

open Sys2Proof.Claims

/-! ### The arithmetic -/

theorem addSample_eq_add (a b : Sample) : addSample a b = a + b := by
  rw [addSample, wrap16, BitVec.ofInt_add, BitVec.ofInt_toInt, BitVec.ofInt_toInt]

/-- The balanced remainder of the exact sum (00_scope R8). -/
theorem addSample_toInt (a b : Sample) : (addSample a b).toInt = (a.toInt + b.toInt + 32768) % 65536 - 32768 := by
  rw [addSample, wrap16, BitVec.toInt_ofInt, Int.bmod_def]
  split <;> omega

/-- Settles O18: the wrapped sum is the sum of bit vectors. -/
theorem sampleAdditionWraps : Obligations.SampleAdditionWraps := fun a b =>
  ⟨addSample_eq_add a b, addSample_toInt a b, by rw [addSample_eq_add, addSample_eq_add, BitVec.add_comm],
    fun c => by simp only [addSample_eq_add, BitVec.add_assoc]⟩

/-- A dense position holds the anchor of its stride (44_reconstruct R215). -/
theorem holdAnchors_getElem? {n j : Nat} {anchors : List Sample} (dense : j < n)
    (anchor : j / Config.anchorStride < anchors.length) :
    (holdAnchors anchors n)[j]? = anchors[j / Config.anchorStride]? := by
  rw [holdAnchors, List.getElem?_map, List.getElem?_range dense, Option.map_some, List.getD_eq_getElem _ _ anchor,
    List.getElem?_eq_getElem anchor]

/-- Settles O19: the anchors are as many as the strides, rounded up. -/
theorem anchorsAreHeld : Obligations.AnchorsAreHeld := by
  intro n anchors _ length
  refine ⟨rfl, holdAnchors_length anchors n, fun j dense => ?_⟩
  have anchor : j / 4 < numAnchors n := by
    unfold numAnchors Config.anchorStride
    omega
  exact ⟨anchor, holdAnchors_getElem? dense (anchor.trans_eq length.symm)⟩

/-- A run of rate 0 has no bytes (41_bitrate_unpack R141). -/
theorem eq_nil_of_rate_zero {rate : BitVec 5} {n : Nat} {run : List Byte} (zero : rate = 0#5)
    (length : run.length = byteAmount rate.toNat n) : run = [] := by
  rw [zero, BitVec.toNat_zero, byteAmount, Nat.zero_mul] at length
  exact List.length_eq_zero_iff.1 length

/-- A run of rate 0 is silence (41_bitrate_unpack R144). -/
theorem unpackRun_rate_zero (n : Nat) (src : List Byte) : unpackRun 0 n src = List.replicate n 0#16 :=
  List.eq_replicate_iff.2 ⟨unpackRun_length 0 n src, List.forall_mem_map.2 fun _ _ => rfl⟩

/-- A silent residual repeats the baseline (44_reconstruct R213). -/
theorem addRun_silence {n : Nat} {vals : List Sample} (length : vals.length = n) :
    addRun vals (List.replicate n 0#16) = vals := by
  subst length
  induction vals with
  | nil => rfl
  | cons v vals ih =>
    calc
      addRun (v :: vals) (List.replicate (vals.length + 1) 0#16)
        = addSample v 0#16 :: addRun vals (List.replicate vals.length 0#16) := rfl
      _ = v :: vals := by rw [ih, addSample_eq_add, BitVec.add_zero]

/-- The samples of a diff cycle are as many as its header says (44_reconstruct R216). -/
theorem diffSamples_length (rateFull rateErr n : Nat) (full err : List Byte) :
    (diffSamples rateFull rateErr n full err).length = n := by
  unfold diffSamples anchorSamples
  split <;> simp

/-! ### Prefix writes of a known length -/

theorem overwrite_eq_append {α : Type} {n : Nat} {vals : List α} (length : vals.length = n) (buf : List α) :
    overwrite vals buf = vals ++ buf.drop n := by
  rw [overwrite, length]

theorem take_overwrite {α : Type} {n : Nat} {vals : List α} (length : vals.length = n) (buf : List α) :
    (overwrite vals buf).take n = vals :=
  length ▸ overwrite_take vals buf

/-- A write of a prefix of `base` does not depend on the entries it covers (44_reconstruct R218). -/
theorem State.setBase_of_drop_eq {vals b b' : List Sample} (kept : b.drop vals.length = b'.drop vals.length) (u : State) :
    ({ u with base := b } : State).setBase vals = ({ u with base := b' } : State).setBase vals := by
  simp only [State.setBase, overwrite, kept]

/-! ### A run with its payload there -/

/-- A state in which a payload is consumed and staged (44_reconstruct R210). -/
def State.stagePayload (payload : List Byte) (s : State) : State := (s.consume payload.length).setStage payload

theorem State.stagePayload_eq {payload rest : List Byte} {s : State} (stream : s.stream = payload ++ rest) :
    s.stagePayload payload = { s with
      stream := rest
      spos := s.spos + payload.length
      stage := payload ++ s.stage.drop payload.length } := by
  have unread : s.stream.drop payload.length = rest := by rw [stream, List.drop_left]
  rw [← unread]
  rfl

/-- A FetchUnpack whose bytes have come runs its unpacker row on them (44_reconstruct R210). -/
theorem State.stepPayload_of_payload {payload rest : List Byte} {s : State} (legal : s.job.rate.toNat ≤ 16)
    (stream : s.stream = payload ++ rest) (length : payload.length = byteAmount s.job.rate.toNat s.job.count) :
    s.stepPayload = andThen (exec (decodeRate s.job.rate) (s.stagePayload payload)) State.completeSub :=
  State.fetchUnpack_of_payload legal stream length

/-- Settles O10: a legal run reads its payload first, an illegal rate runs its row at once. -/
theorem stepRunsUnpackerRow : Obligations.StepRunsUnpackerRow := by
  intro s port active phase
  rw [step_of_payload port active phase]
  refine ⟨fun illegal => if_pos illegal, fun payload rest legal stream length => ?_⟩
  rw [State.stepPayload_of_payload legal stream length, State.stagePayload_eq stream]

/-- A state whose payload is staged and unpacked into `work` (44_reconstruct R213, R216). -/
def State.workUnpacked (payload : List Byte) (s : State) : State :=
  (s.stagePayload payload).setWork (unpackRun s.job.rate.toNat s.job.count payload)

theorem State.workUnpacked_work (payload : List Byte) (s : State) :
    (s.workUnpacked payload).work =
      unpackRun s.job.rate.toNat s.job.count payload ++ s.work.drop s.job.count :=
  overwrite_eq_append (unpackRun_length _ _ _) s.work

theorem State.workUnpacked_take (payload : List Byte) (s : State) :
    (s.workUnpacked payload).work.take s.job.count = unpackRun s.job.rate.toNat s.job.count payload :=
  take_overwrite (unpackRun_length _ _ _) s.work

/-- Every run but a template's is unpacked into `work`, and then the cycle goes on (44_reconstruct R213, R216). -/
theorem State.stepPayload_unpacksWork {payload rest : List Byte} {s : State} (ready : s.ready = true)
    (toWork : s.job.sub ≠ .template) (legal : s.job.rate.toNat ≤ 16) (stream : s.stream = payload ++ rest)
    (length : payload.length = byteAmount s.job.rate.toNat s.job.count) :
    s.stepPayload = (s.workUnpacked payload).completeSub := by
  have staged : (s.stagePayload payload).unpacked s.job.rate.toNat = unpackRun s.job.rate.toNat s.job.count payload :=
    State.unpacked_setStage (s := s.consume payload.length) length
  have unpack : selectForBitRate s.job.rate (s.stagePayload payload) = .next (s.workUnpacked payload) := by
    rw [selectForBitRate_of_legal legal]
    exact State.unpack_eq_next.2 ⟨ready, .inr ⟨toWork, by rw [staged]; rfl⟩⟩
  rw [State.stepPayload_of_payload legal stream length, exec_decodeRate, unpack, andThen_next]

/-- With the payload of its first run there, a cycle that fits unpacks it (43_loop_control R194, 44_reconstruct R210). -/
theorem State.runCycle_unpacksWork {s : State} {sub : SubStream} {rateFull rateErr : BitVec 5} {n : Nat}
    {payload rest : List Byte} (first : sub ≠ .error) (toWork : sub ≠ .template) (full : rateFull.toNat ≤ 16)
    (err : rateErr.toNat ≤ 16) (fits : CycleFits s n) (stream : s.stream = payload ++ rest)
    (length : payload.length = byteAmount rateFull.toNat (Job.count ⟨sub, rateFull, rateErr, n⟩)) :
    s.runCycle sub rateFull rateErr (some n) =
      ((s.startJob ⟨sub, rateFull, rateErr, n⟩).workUnpacked payload).completeSub := by
  have rate : Job.rate ⟨sub, rateFull, rateErr, n⟩ = rateFull := Job.rate_of_ne_error first
  rw [State.runCycle_eq_stepPayload (headerError_of_fits fits full err) first]
  refine State.stepPayload_unpacksWork fits.ready toWork ?_ stream ?_
  · rw [State.startJob_job, rate]; exact full
  · rw [State.startJob_job, rate]; exact length

/-! ### A cycle with its payload there -/

/-- The runs of a cycle that began in `s` have consumed `payload`, and changed nothing else but the buffers and the operands
(44_reconstruct R210). -/
def RunsRead (s u : State) (payload rest : List Byte) : Prop :=
  u = { s with
    stream := rest
    spos := s.spos + payload.length
    stage := u.stage
    work := u.work
    base := u.base
    job := u.job
    phase := .payload }

theorem RunsRead.stream_eq {s u : State} {payload rest : List Byte} (runs : RunsRead s u payload rest) : u.stream = rest := by
  rw [runs]

theorem runsRead_startJob {s : State} {rest : List Byte} (stream : s.stream = rest) (j : Job) :
    RunsRead s (s.startJob j) [] rest := by
  rw [← stream]
  exact rfl

theorem runsRead_workUnpacked {s u : State} {before payload rest : List Byte}
    (runs : RunsRead s u before (payload ++ rest)) : RunsRead s (u.workUnpacked payload) (before ++ payload) rest := by
  unfold RunsRead
  rw [State.workUnpacked, State.stagePayload_eq runs.stream_eq, List.length_append, ← Nat.add_assoc, runs]
  rfl

section AtErrorRun
variable (rateFull rateErr : BitVec 5) (n : Nat) (full : List Byte) (s : State)

theorem State.atErrorRun_job : (s.atErrorRun rateFull rateErr n full).job = ⟨.error, rateFull, rateErr, n⟩ :=
  State.startJob_job _ _

theorem State.atErrorRun_ready : (s.atErrorRun rateFull rateErr n full).ready = s.ready := by
  rw [State.atErrorRun_eq]

theorem State.atErrorRun_streamEnded : (s.atErrorRun rateFull rateErr n full).streamEnded = s.streamEnded := by
  rw [State.atErrorRun_eq]

theorem State.atErrorRun_base :
    (s.atErrorRun rateFull rateErr n full).base = anchorSamples rateFull.toNat n full ++ s.base.drop n := by
  rw [State.atErrorRun_eq]

end AtErrorRun

theorem runsRead_atErrorRun {s : State} {full rest : List Byte} (stream : s.stream = full ++ rest)
    (rateFull rateErr : BitVec 5) (n : Nat) : RunsRead s (s.atErrorRun rateFull rateErr n full) full rest := by
  rw [State.atErrorRun_eq, stream, List.drop_left]
  exact rfl

/-- Once its runs are read, a cycle that fits completes by putting its samples into `base` and writing them (44_reconstruct
R211, R218). -/
theorem setBase_convertWrite_completes {s u : State} {n : Nat} {samples : List Sample} {payload rest : List Byte}
    (fits : CycleFits s n) (length : samples.length = n) (runs : RunsRead s u payload rest)
    (kept : u.base.drop n = s.base.drop n) :
    ∃ t, (u.setBase samples).convertWrite n = .next t ∧ CycleDone s t n samples payload rest ∧
      t.work = u.work ∧ t.stage = u.stage := by
  have write : (u.setBase samples).convertWrite n = (u.setBase samples).convertRun n samples := by
    rw [← length]
    exact State.convertWrite_setBase samples u
  rw [write]
  refine convertRun_completes fits length ?_
  rw [State.setBase, overwrite_eq_append length, kept, runs]

/-! ### TEMPLATE and DELTA -/

section LiteralCount
variable {n : BitVec 16} (count : 1 ≤ n.toNat ∧ n.toNat ≤ Config.block) (rate : BitVec 5) (s : State)
include count

/-- With a legal count a TEMPLATE row runs a cycle of that count (43_loop_control R194). -/
theorem exec_template_of_count : exec (.template rate n) s = s.runCycle .template rate 0#5 (some n.toNat) := by
  rw [← literalCount_eq_some.2 ⟨count.1, count.2, rfl⟩]
  rfl

/-- With a legal count a DELTA row runs a cycle of that count (43_loop_control R194). -/
theorem exec_delta_of_count : exec (.delta rate n) s = s.runCycle .delta rate 0#5 (some n.toNat) := by
  rw [← literalCount_eq_some.2 ⟨count.1, count.2, rfl⟩]
  rfl

end LiteralCount

/-- Settles O23: at rate 0 the unpacked run is silence. -/
theorem templateCompletes : Obligations.TemplateCompletes := by
  intro s rate n payload rest legal fits stream length
  obtain ⟨t, ran, done, work, stage⟩ := exec_template_of_payload legal fits stream length
  refine ⟨t, ran, done, work, stage, fun zero => ⟨eq_nil_of_rate_zero zero length, ?_⟩⟩
  have base : t.base = unpackRun rate.toNat n.toNat payload ++ s.base.drop n.toNat := by rw [done.frame]
  rw [base, zero, BitVec.toNat_zero, unpackRun_rate_zero]

/-- With its payload there, a delta cycle adds its residual to the baseline (44_reconstruct R213). -/
theorem State.runCycle_delta {s : State} {rate : BitVec 5} {n : Nat} {payload rest : List Byte}
    (legal : rate.toNat ≤ 16) (fits : CycleFits s n) (stream : s.stream = payload ++ rest)
    (length : payload.length = byteAmount rate.toNat n) :
    s.runCycle .delta rate 0#5 (some n) =
      (((s.startJob ⟨.delta, rate, 0#5, n⟩).workUnpacked payload).setBase
        (addRun (s.base.take n) (unpackRun rate.toNat n payload))).convertWrite n := by
  have residual := (s.startJob ⟨.delta, rate, 0#5, n⟩).workUnpacked_take payload
  rw [State.runCycle_unpacksWork (sub := .delta) (by decide) (by decide) legal (Nat.zero_le _) fits stream length,
    State.completeSub_delta rfl]
  exact congrArg (fun run => (State.setBase (addRun (s.base.take n) run) _).convertWrite n) residual

/-- Settles O24: the sums are the cycle's samples, and at rate 0 they are the baseline. -/
theorem deltaCompletes : Obligations.DeltaCompletes := by
  intro s rate n payload rest legal fits stream length
  have started := exec_delta_of_count fits.count rate s
  have baseline : (s.base.take n.toNat).length = n.toNat := by
    rw [List.length_take, fits.base, min_eq_left fits.count.2]
  have sums : (addRun (s.base.take n.toNat) (unpackRun rate.toNat n.toNat payload)).length = n.toNat := by
    rw [addRun_length, baseline, unpackRun_length, min_self]
  obtain ⟨t, completes, done, work, stage⟩ := setBase_convertWrite_completes fits sums
    (runsRead_workUnpacked (runsRead_startJob stream ⟨.delta, rate, 0#5, n.toNat⟩)) rfl
  refine ⟨t, started.trans ((State.runCycle_delta legal fits stream length).trans completes), done,
    work.trans (State.workUnpacked_work payload _), stage, fun zero => ⟨eq_nil_of_rate_zero zero length, ?_⟩⟩
  have repeated : addRun (s.base.take n.toNat) (unpackRun rate.toNat n.toNat payload) = s.base.take n.toNat := by
    rw [zero, BitVec.toNat_zero, unpackRun_rate_zero, addRun_silence baseline]
  have base : t.base = addRun (s.base.take n.toNat) (unpackRun rate.toNat n.toNat payload) ++ s.base.drop n.toNat := by
    rw [done.frame]
  rw [base, repeated, List.take_append_drop]

/-! ### DIFF -/

/-- Without an error sub-stream, a diff cycle ends with its anchors distributed (44_reconstruct R216). -/
theorem State.runCycle_of_anchorsOnly {s : State} {rateFull : BitVec 5} {n : Nat} {full rest : List Byte}
    (legal : rateFull.toNat ≤ 16) (fits : CycleFits s n) (stream : s.stream = full ++ rest)
    (length : full.length = byteAmount rateFull.toNat (numAnchors n)) :
    s.runCycle .anchors rateFull 0#5 (some n) =
      (((s.startJob ⟨.anchors, rateFull, 0#5, n⟩).workUnpacked full).setBase
        (anchorSamples rateFull.toNat n full)).convertWrite n := by
  have anchors := (s.startJob ⟨.anchors, rateFull, 0#5, n⟩).workUnpacked_take full
  rw [State.runCycle_unpacksWork (sub := .anchors) (by decide) (by decide) legal (Nat.zero_le _) fits stream length,
    State.completeSub_anchors rfl]
  refine (if_pos rfl).trans ?_
  exact congrArg (fun held => (State.setBase (holdAnchors held n) _).convertWrite n) anchors

/-- With its payload there, the error sub-stream refines the samples in `base` (44_reconstruct R216). -/
theorem State.stepPayload_error {u : State} {rateFull rateErr : BitVec 5} {n : Nat} {err rest : List Byte}
    (job : u.job = ⟨.error, rateFull, rateErr, n⟩) (ready : u.ready = true) (legal : rateErr.toNat ≤ 16)
    (stream : u.stream = err ++ rest) (length : err.length = byteAmount rateErr.toNat n) :
    u.stepPayload =
      ((u.workUnpacked err).setBase (addRun (u.base.take n) (unpackRun rateErr.toNat n err))).convertWrite n := by
  have rate : u.job.rate = rateErr := by rw [job]; rfl
  have count : u.job.count = n := by rw [job]; rfl
  have sub : u.job.sub = .error := by rw [job]
  have samples : u.job.n = n := by rw [job]
  have residual := u.workUnpacked_take err
  have completes : (u.workUnpacked err).completeSub = ((u.workUnpacked err).setBase
      (addRun (u.base.take u.job.n) ((u.workUnpacked err).work.take u.job.n))).convertWrite u.job.n :=
    State.completeSub_error sub
  rw [rate, count] at residual
  rw [State.stepPayload_unpacksWork ready (by rw [sub]; decide) (rate ▸ legal) stream (by rw [rate, count, length]),
    completes, samples, residual]

/-- A diff cycle with both its sub-streams there completes (44_reconstruct R216). -/
theorem State.runCycle_diff_completes {s : State} {rateFull rateErr : BitVec 5} {n : Nat} {full err rest : List Byte}
    (legalFull : rateFull.toNat ≤ 16) (legalErr : rateErr.toNat ≤ 16) (fits : CycleFits s n)
    (stream : s.stream = full ++ (err ++ rest)) (lengthFull : full.length = byteAmount rateFull.toNat (numAnchors n))
    (lengthErr : err.length = byteAmount rateErr.toNat n) :
    ∃ t, s.runCycle .anchors rateFull rateErr (some n) = .next t ∧
      CycleDone s t n (diffSamples rateFull.toNat rateErr.toNat n full err) (full ++ err) rest := by
  have samples := diffSamples_length rateFull.toNat rateErr.toNat n full err
  obtain zero | positive := Nat.eq_zero_or_pos rateErr.toNat
  · obtain rfl : rateErr = 0#5 := BitVec.eq_of_toNat_eq zero
    obtain rfl := eq_nil_of_rate_zero rfl lengthErr
    obtain ⟨t, completes, done, -⟩ := setBase_convertWrite_completes fits samples
      (runsRead_workUnpacked (runsRead_startJob stream ⟨.anchors, rateFull, 0#5, n⟩)) rfl
    rw [List.append_nil]
    exact ⟨t, (State.runCycle_of_anchorsOnly legalFull fits stream lengthFull).trans completes, done⟩
  · have anchors : (anchorSamples rateFull.toNat n full).length = n := holdAnchors_length _ n
    have base := s.atErrorRun_base rateFull rateErr n full
    have kept : (s.atErrorRun rateFull rateErr n full).base.drop n = s.base.drop n := by
      rw [base, List.drop_left' anchors]
    have held : (s.atErrorRun rateFull rateErr n full).base.take n = anchorSamples rateFull.toNat n full := by
      rw [base, List.take_left' anchors]
    have refined : diffSamples rateFull.toNat rateErr.toNat n full err =
        addRun (anchorSamples rateFull.toNat n full) (unpackRun rateErr.toNat n err) := if_neg positive.ne'
    have runs := runsRead_atErrorRun stream rateFull rateErr n
    have ready := (s.atErrorRun_ready rateFull rateErr n full).trans fits.ready
    obtain ⟨t, completes, done, -⟩ := setBase_convertWrite_completes fits samples (runsRead_workUnpacked runs) kept
    rw [State.runCycle_of_full legalFull legalErr positive fits stream lengthFull,
      State.stepPayload_error (s.atErrorRun_job rateFull rateErr n full) ready legalErr runs.stream_eq lengthErr, held,
      ← refined]
    exact ⟨t, completes, done⟩

/-- A row that runs a diff cycle completes (44_reconstruct R216). -/
theorem diffCompletes {row : BitVec 5 → BitVec 5 → BitVec 8 → Instr}
    (run : ∀ rateFull rateErr k u, exec (row rateFull rateErr k) u = u.runCycle .anchors rateFull rateErr (log2Count k)) :
    DiffCompletes row := by
  intro s rateFull rateErr k full err rest legalFull legalErr legalLog2 fits stream lengthFull lengthErr
  rw [run, log2Count_eq_some.2 ⟨legalLog2, rfl⟩]
  exact State.runCycle_diff_completes legalFull legalErr fits stream lengthFull lengthErr

/-- Settles O25: the three rows run the same cycle. -/
theorem diffRowsComplete : Obligations.DiffRowsComplete :=
  ⟨diffCompletes fun _ _ _ _ => rfl, diffCompletes fun _ _ _ _ => rfl, diffCompletes fun _ _ _ _ => rfl⟩

/-! ### A payload that ends early -/

/-- What an abort leaves does not tell where in its cycle the command stood. -/
theorem aborted_of_phase {code : BitVec 4} {phase : Phase} {s t : State} (h : Aborted code { s with phase := phase } t) :
    Aborted code s t :=
  ⟨h.status, h.fault, h.readIndex, h.produced, h.readOffset, h.perf, h.frame⟩

/-- An abort leaves the scratch buffers and the operands (60_exceptions R250). -/
theorem aborted_keeps {code : BitVec 4} {s t : State} (h : Aborted code s t) :
    t.stage = s.stage ∧ t.work = s.work ∧ t.job = s.job := by
  rw [h.frame]
  exact ⟨rfl, rfl, rfl⟩

/-- At the end of the stream a FetchUnpack consumes what remains and aborts (44_reconstruct R210, 60_exceptions R241). -/
theorem State.stepPayload_aborts {s : State} (legal : s.job.rate.toNat ≤ 16) (ended : s.streamEnded = true)
    (missing : s.stream.length < byteAmount s.job.rate.toNat s.job.count) :
    ∃ t, s.stepPayload = .next t ∧ Aborted 1#4 { s with stream := [], spos := s.spos + s.stream.length } t := by
  have consumed : s.consume s.stream.length = { s with stream := [], spos := s.spos + s.stream.length } := by
    rw [State.consume, List.drop_length]
  obtain ⟨there, -⟩ | ⟨-, -, short⟩ | ⟨-, notEnded, -⟩ :=
    State.fetchUnpack_cases (unpacker := exec (decodeRate s.job.rate)) (k := State.completeSub) legal
  · exact absurd there (Nat.not_le.2 missing)
  · exact ⟨_, short, consumed ▸ aborted_abort .streamExhausted _⟩
  · exact absurd (ended.symm.trans notEnded) (by decide)

/-- A cycle whose stream ends inside its first run aborts with nothing of it used (44_reconstruct R210). -/
theorem firstRun_aborts {s : State} {sub : SubStream} {rateFull rateErr : BitVec 5} {n : Nat} (first : sub ≠ .error)
    (full : rateFull.toNat ≤ 16) (err : rateErr.toNat ≤ 16) (fits : CycleFits s n) (ended : s.streamEnded = true)
    (missing : s.stream.length < byteAmount rateFull.toNat (Job.count ⟨sub, rateFull, rateErr, n⟩)) :
    ∃ t, s.runCycle sub rateFull rateErr (some n) = .next t ∧
      Aborted 1#4 { s with stream := [], spos := s.spos + s.stream.length, job := t.job } t := by
  have rate : Job.rate ⟨sub, rateFull, rateErr, n⟩ = rateFull := Job.rate_of_ne_error first
  rw [State.runCycle_eq_stepPayload (headerError_of_fits fits full err) first]
  obtain ⟨t, aborts, aborted⟩ := State.stepPayload_aborts (s := s.startJob ⟨sub, rateFull, rateErr, n⟩)
    (by rw [State.startJob_job, rate]; exact full) ended (by rw [State.startJob_job, rate]; exact missing)
  obtain ⟨-, -, job⟩ := aborted_keeps aborted
  refine ⟨t, aborts, ?_⟩
  rw [job]
  exact aborted_of_phase aborted

/-- A diff cycle whose stream ends inside its error sub-stream aborts with its anchors distributed (44_reconstruct R216). -/
theorem errorRun_aborts {s : State} {rateFull rateErr : BitVec 5} {n : Nat} {full err : List Byte}
    (legalFull : rateFull.toNat ≤ 16) (legalErr : rateErr.toNat ≤ 16) (positive : 0 < rateErr.toNat) (fits : CycleFits s n)
    (ended : s.streamEnded = true) (stream : s.stream = full ++ err)
    (length : full.length = byteAmount rateFull.toNat (numAnchors n)) (missing : err.length < byteAmount rateErr.toNat n) :
    ∃ t, s.runCycle .anchors rateFull rateErr (some n) = .next t ∧
      Aborted 1#4 { s with
        stream := []
        spos := s.spos + s.stream.length
        stage := t.stage
        work := t.work
        base := anchorSamples rateFull.toNat n full ++ s.base.drop n
        job := t.job } t := by
  have operands := s.atErrorRun_job rateFull rateErr n full
  have unread := (runsRead_atErrorRun stream rateFull rateErr n).stream_eq
  obtain ⟨t, aborts, aborted⟩ := State.stepPayload_aborts (s := s.atErrorRun rateFull rateErr n full)
    (by rw [operands]; exact legalErr) ((s.atErrorRun_streamEnded rateFull rateErr n full).trans ended)
    (by rw [operands, unread]; exact missing)
  obtain ⟨stage, work, job⟩ := aborted_keeps aborted
  refine ⟨t, (State.runCycle_of_full legalFull legalErr positive fits stream length).trans aborts, ?_⟩
  rw [stage, work, job, stream, List.length_append, ← Nat.add_assoc]
  rw [unread] at aborted
  rw [State.atErrorRun_eq] at aborted ⊢
  exact aborted_of_phase aborted

/-- Settles O28: either row has one run, and it is the short one. -/
theorem shortPayloadAborts : Obligations.ShortPayloadAborts := by
  intro s rate n legal fits ended missing i row
  rcases row with rfl | rfl
  · rw [exec_template_of_count fits.count]
    exact firstRun_aborts SubStream.noConfusion legal (Nat.zero_le _) fits ended missing
  · rw [exec_delta_of_count fits.count]
    exact firstRun_aborts SubStream.noConfusion legal (Nat.zero_le _) fits ended missing

/-- A row that runs a diff cycle aborts where the stream ends inside either of its runs (44_reconstruct R216). -/
theorem diffShort {row : BitVec 5 → BitVec 5 → BitVec 8 → Instr}
    (run : ∀ rateFull rateErr k u, exec (row rateFull rateErr k) u = u.runCycle .anchors rateFull rateErr (log2Count k)) :
    DiffShort row := by
  intro s rateFull rateErr k legalFull legalErr legalLog2 fits ended
  rw [run, log2Count_eq_some.2 ⟨legalLog2, rfl⟩]
  exact ⟨fun missing => firstRun_aborts SubStream.noConfusion legalFull legalErr fits ended missing,
    fun _ _ stream positive length missing =>
      errorRun_aborts legalFull legalErr positive fits ended stream length missing⟩

/-- Settles O29: the short run is the first or the second of the cycle that all three rows run. -/
theorem shortDiffPayloadAborts : Obligations.ShortDiffPayloadAborts :=
  ⟨diffShort fun _ _ _ _ => rfl, diffShort fun _ _ _ _ => rfl, diffShort fun _ _ _ _ => rfl⟩

/-! ### The old baseline -/

section OldBaseline
variable {s : State} {n : Nat} {b b' : List Sample}

/-- A cycle fits whatever its baseline holds. -/
theorem cycleFits_withBase (fits : CycleFits { s with base := b } n) (length : b'.length = b.length) :
    CycleFits { s with base := b' } n :=
  { fits with base := length.trans fits.base }

variable (kept : b.drop n = b'.drop n)
include kept

theorem templateUnpacked_withBase (rate : BitVec 5) (payload : List Byte) :
    ({ s with base := b } : State).templateUnpacked rate n payload =
      ({ s with base := b' } : State).templateUnpacked rate n payload := by
  rw [State.templateUnpacked_eq, State.templateUnpacked_eq, kept]

theorem atErrorRun_withBase (rateFull rateErr : BitVec 5) (full : List Byte) :
    ({ s with base := b } : State).atErrorRun rateFull rateErr n full =
      ({ s with base := b' } : State).atErrorRun rateFull rateErr n full := by
  rw [State.atErrorRun_eq, State.atErrorRun_eq, kept]

/-- A template cycle with its payload there does not read the entries of `base` it covers (44_reconstruct R212). -/
theorem runCycle_template_withBase {rate : BitVec 5} {payload rest : List Byte} (legal : rate.toNat ≤ 16)
    (fits : CycleFits { s with base := b } n) (fits' : CycleFits { s with base := b' } n) (stream : s.stream = payload ++ rest)
    (length : payload.length = byteAmount rate.toNat n) :
    ({ s with base := b } : State).runCycle .template rate 0#5 (some n) =
      ({ s with base := b' } : State).runCycle .template rate 0#5 (some n) := by
  rw [State.runCycle_template legal fits stream length, State.runCycle_template legal fits' stream length,
    templateUnpacked_withBase kept]

/-- A diff cycle with its full sub-stream there does not read the entries of `base` it covers, whether an error sub-stream
follows or not (44_reconstruct R216). -/
theorem runCycle_diff_withBase {rateFull rateErr : BitVec 5} {full rest : List Byte} (legalFull : rateFull.toNat ≤ 16)
    (legalErr : rateErr.toNat ≤ 16) (fits : CycleFits { s with base := b } n) (fits' : CycleFits { s with base := b' } n)
    (stream : s.stream = full ++ rest) (length : full.length = byteAmount rateFull.toNat (numAnchors n)) :
    ({ s with base := b } : State).runCycle .anchors rateFull rateErr (some n) =
      ({ s with base := b' } : State).runCycle .anchors rateFull rateErr (some n) := by
  obtain zero | positive := Nat.eq_zero_or_pos rateErr.toNat
  · obtain rfl : rateErr = 0#5 := BitVec.eq_of_toNat_eq zero
    have covered : (anchorSamples rateFull.toNat n full).length = n := holdAnchors_length _ n
    rw [State.runCycle_of_anchorsOnly legalFull fits stream length,
      State.runCycle_of_anchorsOnly legalFull fits' stream length]
    exact congrArg (State.convertWrite n) (State.setBase_of_drop_eq (by rw [covered]; exact kept)
      ((s.startJob ⟨.anchors, rateFull, 0#5, n⟩).workUnpacked full))
  · rw [State.runCycle_of_full legalFull legalErr positive fits stream length,
      State.runCycle_of_full legalFull legalErr positive fits' stream length, atErrorRun_withBase kept]

end OldBaseline

/-- Settles O56: the first write of either cycle covers the old entries, and only the ones above them are kept. -/
theorem oldBaselineNotRead : Obligations.OldBaselineNotRead := by
  intro s old new payload full err rest rate rateErr n k legal legalErr covered
  have kept {m : Nat} (old_length : old.length = m) (new_length : new.length = m) :
      (old ++ s.base.drop m).drop m = (new ++ s.base.drop m).drop m := by
    rw [List.drop_left' old_length, List.drop_left' new_length]
  have length {m : Nat} (old_length : old.length = m) (new_length : new.length = m) :
      (new ++ s.base.drop m).length = (old ++ s.base.drop m).length := by
    rw [List.length_append, List.length_append, old_length, new_length]
  refine ⟨fun old_length new_length fits stream payload_length => ?template,
    fun legalLog2 old_length new_length fits stream full_length _ => ?diff⟩
  case template =>
    rw [exec_template_of_count fits.count, exec_template_of_count fits.count]
    exact runCycle_template_withBase (kept old_length new_length) legal fits
      (cycleFits_withBase fits (length old_length new_length)) stream payload_length
  case diff =>
    have count : log2Count k = some (2 ^ k.toNat) := log2Count_eq_some.2 ⟨legalLog2, rfl⟩
    have run (u : State) : exec (.diff1 rate rateErr k) u = u.runCycle .anchors rate rateErr (some (2 ^ k.toNat)) :=
      count ▸ rfl
    rw [run, run]
    exact runCycle_diff_withBase (kept old_length new_length) legal legalErr fits
      (cycleFits_withBase fits (length old_length new_length)) stream full_length

end Sys2Proof.Machine
end

section
/-!
SUPPORT. The int16-to-float converter (45_float_convert R230 to R232). A pattern is one integer of three fields
(`i16ToF32_toNat`); its value and its sign bit are then facts about the fields.
-/

namespace Sys2Proof.Machine

open Sys2Proof.Claims

/-! ### The three fields -/

theorem topBit_eq_log2 {a p : Nat} (fits : a < 2 ^ (p + 1)) : topBit a p = a.log2 := by
  induction p with
  | zero =>
    have small : a < 2 := fits
    interval_cases a <;> rfl
  | succ p ih =>
    unfold topBit
    split
    case isTrue set =>
      have pos : 0 < 2 ^ (p + 1) := Nat.two_pow_pos _
      exact ((Nat.log2_eq_iff (by omega)).2 ⟨set, fits⟩).symm
    case isFalse clear => exact ih (Nat.lt_of_not_le clear)

theorem natAbs_toInt_pos {v : Sample} (nonzero : v ≠ 0#16) : 0 < v.toInt.natAbs :=
  Int.natAbs_pos.2 (BitVec.toInt_ne.2 nonzero)

theorem natAbs_toInt_lt (v : Sample) : v.toInt.natAbs < 2 ^ 16 := by
  have := v.toInt_lt
  have := v.le_toInt
  omega

/-- The sign `s` of 45_float_convert R231. -/
def signField (v : Sample) : Nat := if v.toInt < 0 then 1 else 0

/-- The fraction `m` of 45_float_convert R231 for the magnitude `a`. -/
def fractionField (a : Nat) : Nat := (a - 2 ^ a.log2) * 2 ^ (23 - a.log2)

theorem signField_lt (v : Sample) : signField v < 2 := by
  unfold signField
  split <;> decide

theorem signField_mul_natAbs (v : Sample) : (-1 : ℚ) ^ signField v * (v.toInt.natAbs : ℚ) = v.toInt := by
  unfold signField
  rw [Nat.cast_natAbs, Int.cast_abs]
  split
  case isTrue neg => rw [abs_of_neg (Int.cast_lt_zero.2 neg), pow_one, neg_one_mul, neg_neg]
  case isFalse nonneg => rw [abs_of_nonneg (Int.cast_nonneg (Int.not_lt.1 nonneg)), pow_zero, one_mul]

section Magnitude

variable {a : Nat} (pos : 0 < a) (fits : a < 2 ^ 16)
include pos fits

theorem log2_le_of_magnitude : a.log2 ≤ 15 := Nat.lt_succ_iff.1 ((Nat.log2_lt pos.ne').2 fits)

theorem fractionField_lt : fractionField a < 2 ^ 23 := by
  have exponent := log2_le_of_magnitude pos fits
  have below : a - 2 ^ a.log2 < 2 ^ a.log2 := by
    have upper : a < 2 ^ (a.log2 + 1) := Nat.lt_log2_self
    rw [pow_succ] at upper
    omega
  calc
    fractionField a < 2 ^ a.log2 * 2 ^ (23 - a.log2) := Nat.mul_lt_mul_of_pos_right below (Nat.two_pow_pos _)
    _ = 2 ^ 23 := by rw [← pow_add, Nat.add_sub_cancel' (by omega)]

/-- The significand is the magnitude with its highest set bit at the unit: no bit is lost (45_float_convert R231). -/
theorem significand_eq : 1 + (fractionField a : ℚ) / 2 ^ 23 = a / 2 ^ a.log2 := by
  have exponent : a.log2 ≤ 23 := (log2_le_of_magnitude pos fits).trans (by decide)
  have low : 2 ^ a.log2 ≤ a := Nat.log2_self_le pos.ne'
  have unit : (2 : ℚ) ^ 23 = 2 ^ (23 - a.log2) * 2 ^ a.log2 := (pow_sub_mul_pow 2 exponent).symm
  rw [fractionField, unit]
  push_cast [Nat.cast_sub low]
  field_simp
  ring

/-- Exponent and fraction leave the sign bit clear. -/
theorem magnitudeFields_lt : (112 + a.log2) * 2 ^ 23 + fractionField a < 2 ^ 31 := by
  have exponent := log2_le_of_magnitude pos fits
  have fraction := fractionField_lt pos fits
  omega

end Magnitude

theorem i16ToF32_of_ne_zero {v : Sample} (nonzero : v ≠ 0#16) :
    i16ToF32 v = BitVec.ofNat 32 (signField v <<< 31 ||| (112 + v.toInt.natAbs.log2) <<< 23 |||
      fractionField v.toInt.natAbs) := by
  rw [i16ToF32, if_neg nonzero]
  simp only [topBit_eq_log2 (natAbs_toInt_lt v), Nat.shiftLeft_eq (_ - _)]
  rfl

/-- The fields of 45_float_convert R231 do not overlap, so that the pattern is their sum. -/
theorem i16ToF32_toNat {v : Sample} (nonzero : v ≠ 0#16) :
    (i16ToF32 v).toNat =
      signField v * 2 ^ 31 + ((112 + v.toInt.natAbs.log2) * 2 ^ 23 + fractionField v.toInt.natAbs) := by
  have sign := signField_lt v
  have fraction := fractionField_lt (natAbs_toInt_pos nonzero) (natAbs_toInt_lt v)
  have rest := magnitudeFields_lt (natAbs_toInt_pos nonzero) (natAbs_toInt_lt v)
  rw [i16ToF32_of_ne_zero nonzero, Nat.or_assoc, ← Nat.shiftLeft_add_eq_or_of_lt fraction, Nat.shiftLeft_eq _ 23,
    ← Nat.shiftLeft_add_eq_or_of_lt rest, Nat.shiftLeft_eq, BitVec.toNat_ofNat]
  exact Nat.mod_eq_of_lt (by linarith only [sign, rest])

/-! ### The value -/

theorem i16ToF32_exponent {v : Sample} (nonzero : v ≠ 0#16) :
    (i16ToF32 v).toNat / 2 ^ 23 % 2 ^ 8 = 112 + v.toInt.natAbs.log2 := by
  have exponent := log2_le_of_magnitude (natAbs_toInt_pos nonzero) (natAbs_toInt_lt v)
  have fraction := fractionField_lt (natAbs_toInt_pos nonzero) (natAbs_toInt_lt v)
  rw [i16ToF32_toNat nonzero]
  omega

theorem i16ToF32_fraction {v : Sample} (nonzero : v ≠ 0#16) :
    (i16ToF32 v).toNat % 2 ^ 23 = fractionField v.toInt.natAbs := by
  have fraction := fractionField_lt (natAbs_toInt_pos nonzero) (natAbs_toInt_lt v)
  rw [i16ToF32_toNat nonzero]
  omega

theorem i16ToF32_sign {v : Sample} (nonzero : v ≠ 0#16) : (i16ToF32 v).toNat / 2 ^ 31 = signField v := by
  have rest := magnitudeFields_lt (natAbs_toInt_pos nonzero) (natAbs_toInt_lt v)
  rw [i16ToF32_toNat nonzero]
  omega

theorem zeroOrNormal_i16ToF32 (v : Sample) : zeroOrNormal (i16ToF32 v) := by
  obtain rfl | nonzero := eq_or_ne v 0#16
  · exact .inl rfl
  · have exponent := log2_le_of_magnitude (natAbs_toInt_pos nonzero) (natAbs_toInt_lt v)
    refine .inr ?_
    rw [i16ToF32_exponent nonzero]
    omega

/-- The conversion is exact (45_float_convert R231). -/
theorem f32Value_i16ToF32 (v : Sample) : f32Value (i16ToF32 v) = (v.toInt : ℚ) / 32768 := by
  obtain rfl | nonzero := eq_or_ne v 0#16
  · rw [BitVec.toInt_zero, Int.cast_zero, zero_div]
    rfl
  · have significand := significand_eq (natAbs_toInt_pos nonzero) (natAbs_toInt_lt v)
    have scale : (2 : ℚ) ^ (((112 + v.toInt.natAbs.log2 : Nat) : Int) - 127) = 2 ^ v.toInt.natAbs.log2 / 32768 := by
      rw [show ((112 + v.toInt.natAbs.log2 : Nat) : Int) - 127 = (v.toInt.natAbs.log2 : Int) - 15 by omega,
        zpow_sub₀ two_ne_zero, zpow_natCast]
      norm_num
    calc
      f32Value (i16ToF32 v)
        = (-1) ^ signField v * (2 : ℚ) ^ (((112 + v.toInt.natAbs.log2 : Nat) : Int) - 127) *
            (1 + (fractionField v.toInt.natAbs : ℚ) / 2 ^ 23) := by
          unfold f32Value
          rw [i16ToF32_exponent nonzero, i16ToF32_fraction nonzero, i16ToF32_sign nonzero]
          exact if_neg fun zero => absurd zero.1 (by omega)
      _ = (-1) ^ signField v * (v.toInt.natAbs : ℚ) / 32768 := by
          rw [scale, significand]
          field_simp
      _ = (v.toInt : ℚ) / 32768 := by rw [signField_mul_natAbs]

/-- An exact conversion gives the sample back. -/
theorem i16ToF32_injective : Function.Injective i16ToF32 := fun v w same => by
  have value : (v.toInt : ℚ) / 32768 = w.toInt / 32768 := by
    rw [← f32Value_i16ToF32, ← f32Value_i16ToF32, same]
  exact BitVec.eq_of_toInt_eq (Int.cast_injective ((div_left_inj' (by norm_num)).1 value))

/-- Settles O20: only zero gives the pattern of zero, because the conversion is injective. -/
theorem conversionIsExact : Obligations.ConversionIsExact := fun v =>
  ⟨f32Value_i16ToF32 v, zeroOrNormal_i16ToF32 v, i16ToF32_injective.eq_iff' rfl⟩

/-! ### The sign bit -/

theorem toNat_xor_signBit {p : Word} (clear : p.toNat < 2 ^ 31) :
    (p ^^^ 0x80000000#32).toNat = 2 ^ 31 + p.toNat := by
  have sign : (p.toNat ^^^ 2 ^ 31) / 2 ^ 31 = 1 := by
    rw [Nat.xor_div_two_pow, Nat.div_eq_of_lt clear, Nat.div_self (Nat.two_pow_pos _), Nat.zero_xor]
  have rest : (p.toNat ^^^ 2 ^ 31) % 2 ^ 31 = p.toNat := by
    rw [Nat.xor_mod_two_pow, Nat.mod_eq_of_lt clear, Nat.mod_self, Nat.xor_zero]
  change p.toNat ^^^ 2 ^ 31 = _
  omega

/-- A positive sample has its negative in range, with the same magnitude. -/
theorem toInt_neg_of_pos {v : Sample} (pos : 1 ≤ v.toInt) : (-v).toInt = -v.toInt := by
  refine BitVec.toInt_neg_of_ne_intMin ?_
  rintro rfl
  exact absurd pos (by decide)

/-- The conversion is odd (45_float_convert R231): the patterns of `v` and `-v` differ in the sign field only. -/
theorem i16ToF32_neg {v : Sample} (pos : 1 ≤ v.toInt) : i16ToF32 (-v) = i16ToF32 v ^^^ 0x80000000#32 := by
  have neg := toInt_neg_of_pos pos
  have nonzero : v ≠ 0#16 := BitVec.toInt_ne.1 (by rw [BitVec.toInt_zero]; omega)
  have neg_nonzero : -v ≠ 0#16 := BitVec.toInt_ne.1 (by rw [BitVec.toInt_zero]; omega)
  have sign : signField v = 0 := if_neg (by omega)
  have neg_sign : signField (-v) = 1 := if_pos (by omega)
  have pattern := i16ToF32_toNat nonzero
  have neg_pattern := i16ToF32_toNat neg_nonzero
  rw [sign, zero_mul, zero_add] at pattern
  rw [neg_sign, neg, Int.natAbs_neg, ← pattern, one_mul] at neg_pattern
  have clear := magnitudeFields_lt (natAbs_toInt_pos nonzero) (natAbs_toInt_lt v)
  rw [← pattern] at clear
  exact BitVec.eq_of_toNat_eq (neg_pattern.trans (toNat_xor_signBit clear).symm)

/-- Settles O21: a pattern gives its sample back by its value, and -32768 is one fixed pattern. -/
theorem conversionIsOddAndInjective : Obligations.ConversionIsOddAndInjective :=
  ⟨fun _ _ same => i16ToF32_injective same, fun _ pos => i16ToF32_neg pos, by decide⟩

/-- Settles O22: twenty fixed patterns, computed. -/
theorem conversionTable : Obligations.ConversionTable := by
  unfold Obligations.ConversionTable
  decide

end Sys2Proof.Machine
end

section
/-!
SUPPORT. The latched fault and the throughput record (60_exceptions R250 to R252, R258 to R260): the commands RESET and SETUP
clear them, the return of a DECODE records one sample, and every other step keeps them (`RecordCase`). A step inside a cycle
keeps them too, unless it aborts (`CycleOutcome`).
-/

namespace Sys2Proof.Machine

open Sys2Proof.Claims

/-- Settles O16: each illegal row is the abort with `BitRate`. -/
theorem illegalRateRowsAbort : Obligations.IllegalRateRowsAbort :=
  have aborts (s : State) := aborted_abort .bitRate s
  ⟨fun s => ⟨_, rfl, aborts s⟩, fun _ s => ⟨_, rfl, aborts s⟩, fun _ s => ⟨_, rfl, aborts s⟩, fun _ s => ⟨_, rfl, aborts s⟩⟩

/-! ### What a cycle does to the record -/

/-- The fields a step's treatment of a fault and of the throughput rests on: whether a DECODE runs, the fault, and the
instrumentation; every other field as after reset. -/
def State.record (s : State) : State :=
  { State.reset with
    state := s.state
    fault := s.fault
    perfEnable := s.perfEnable
    perfHist := s.perfHist
    perfRatio := s.perfRatio }

/-- How a step inside a cycle leaves the record. -/
inductive CycleOutcome (s t : State) : Prop
  /-- The cycle waits, or has written its samples. -/
  | goesOn (same : t.record = s.record)
  /-- The cycle is aborted (60_exceptions R250). -/
  | aborts (u : State) (e : ErrorCode) (next : t = u.abort e) (same : u.record = s.record)

/-- What a cycle has done so far does not count against its outcome. -/
theorem CycleOutcome.after {s u t : State} (h : CycleOutcome u t) (same : u.record = s.record) : CycleOutcome s t := by
  cases h with
  | goesOn same' => exact .goesOn (same'.trans same)
  | aborts v e next same' => exact .aborts v e next (same'.trans same)

theorem CycleOutcome.convertRun {n : Nat} {samples : List Sample} {s t : State} (h : s.convertRun n samples = .next t) :
    CycleOutcome s t := by
  obtain ⟨-, rfl⟩ := State.convertRun_eq_next.1 h
  exact .goesOn rfl

theorem CycleOutcome.setBase_convertWrite {vals : List Sample} {n : Nat} {s t : State}
    (h : (s.setBase vals).convertWrite n = .next t) : CycleOutcome s t :=
  (CycleOutcome.convertRun h).after rfl

theorem record_of_unpack {r : Nat} {s t : State} (h : s.unpack r = .next t) : t.record = s.record := by
  obtain ⟨-, ⟨-, rfl⟩ | ⟨-, rfl⟩⟩ := State.unpack_eq_next.1 h <;> rfl

/-- A selected row unpacks, or is an illegal one (41_bitrate_unpack R140, 60_exceptions R243). -/
theorem CycleOutcome.selected {rate : BitVec 5} {s t : State} (h : selectForBitRate rate s = .next t) :
    CycleOutcome s t := by
  rw [selectForBitRate_eq] at h
  split at h
  · exact .goesOn (record_of_unpack h)
  · cases h
    exact .aborts s .bitRate rfl rfl

/-- A FetchUnpack aborts, waits, or leaves the outcome to the rest of its cycle (44_reconstruct R210). -/
theorem CycleOutcome.fetchUnpack {rate : BitVec 5} {k : State → Result} {s t : State}
    (legal : s.job.rate.toNat ≤ Config.maxRate → rate.toNat ≤ Config.maxRate)
    (rest : ∀ u : State, k u = .next t → CycleOutcome u t) (h : s.fetchUnpack (selectForBitRate rate) k = .next t) :
    CycleOutcome s t := by
  rcases le_or_gt s.job.rate.toNat Config.maxRate with jobLegal | illegal
  · obtain ⟨-, run⟩ | ⟨-, -, short⟩ | ⟨-, -, waits⟩ :=
      State.fetchUnpack_cases (unpacker := selectForBitRate rate) (k := k) jobLegal
    · rw [run, selectForBitRate_of_legal (legal jobLegal), andThen_eq_next] at h
      obtain ⟨u, unpacked, done⟩ := h
      have same := record_of_unpack unpacked
      exact (rest u done).after same
    · rw [short] at h
      cases h
      exact .aborts _ .streamExhausted rfl rfl
    · rw [waits] at h
      cases h
      exact .goesOn rfl
  · unfold State.fetchUnpack at h
    rw [if_pos illegal] at h
    exact .selected h

theorem CycleOutcome.startError {s t : State} (h : s.startError = .next t) : CycleOutcome s t :=
  (CycleOutcome.fetchUnpack id (fun _ => .setBase_convertWrite) h).after rfl

/-- The rest of a cycle, after whichever run was unpacked. -/
theorem CycleOutcome.completeSub {s t : State} (h : s.completeSub = .next t) : CycleOutcome s t := by
  cases sub : s.job.sub with
  | template => exact .convertRun (State.completeSub_template sub ▸ h)
  | delta => exact .setBase_convertWrite (State.completeSub_delta sub ▸ h)
  | anchors =>
    rw [State.completeSub_anchors sub] at h
    split at h
    · exact .setBase_convertWrite h
    · exact (CycleOutcome.startError h).after rfl
  | error => exact .setBase_convertWrite (State.completeSub_error sub ▸ h)

theorem CycleOutcome.runCycle {sub : SubStream} {rateFull rateErr : BitVec 5} {count : Option Nat} {s t : State}
    (h : s.runCycle sub rateFull rateErr count = .next t) : CycleOutcome s t := by
  cases header : s.headerError rateFull rateErr count with
  | some code =>
    rw [State.runCycle_of_error header] at h
    cases h
    exact .aborts s code rfl rfl
  | none =>
    obtain ⟨full, -, n, rfl, -⟩ := State.headerError_eq_none.1 header
    rw [State.runCycle_of_legal header] at h
    exact (CycleOutcome.fetchUnpack (fun _ => full) (fun _ => .completeSub) h).after rfl

/-- A cycle from its header on (43_loop_control R194). -/
theorem CycleOutcome.stepCycle {s t : State} (h : s.stepCycle = .next t) : CycleOutcome s t := by
  unfold State.stepCycle at h
  obtain ⟨b0, b1, b2, _, -, header⟩ | ⟨-, -, header⟩ | ⟨-, -, header⟩ := s.readCycleHeader_cases
  all_goals rw [header] at h
  · obtain ⟨_, _, _, _, -, run⟩ := exec_decodeHeader b0 (numByteOrder b1 b2)
    exact (CycleOutcome.runCycle ((run _).symm.trans h)).after rfl
  · cases h
    exact .aborts _ .streamExhausted rfl rfl
  · cases h
    exact .goesOn rfl

/-- A cycle that goes on from the read it waited in (20_memory R64). -/
theorem CycleOutcome.stepPayload {s t : State} (h : s.stepPayload = .next t) : CycleOutcome s t :=
  .fetchUnpack id (fun _ => .completeSub) (s.stepPayload_eq ▸ h)

/-! ### What a step does to the record -/

/-- From `s` to `t` a DECODE that ran still runs, a latched fault stays (60_exceptions R252), and the throughput record is as it
was. -/
structure KeepsRecord (s t : State) : Prop where
  running : s.state = .active → t.state = .active
  fault : s.fault ≠ 0#4 → t.fault = s.fault
  perfEnable : t.perfEnable = s.perfEnable
  perfHist : t.perfHist = s.perfHist
  perfRatio : t.perfRatio = s.perfRatio

theorem KeepsRecord.of_record {s t : State} (same : t.record = s.record) : KeepsRecord s t where
  running active := (congrArg State.state same).trans active
  fault _ := (congrArg State.fault same :)
  perfEnable := (congrArg State.perfEnable same :)
  perfHist := (congrArg State.perfHist same :)
  perfRatio := (congrArg State.perfRatio same :)

/-- A latched fault is not overwritten (60_exceptions R250, R252). -/
theorem KeepsRecord.setError {s u : State} (kept : KeepsRecord s u) (e : ErrorCode) : KeepsRecord s (u.setError e) :=
  { kept with
    fault := fun latched => by
      have same := kept.fault latched
      rw [State.setError_fault, if_neg fun first => latched (same.symm.trans first.2), same] }

/-- What a step does to a latched fault and to the throughput record. -/
inductive RecordCase (s t : State) : Prop
  /-- RESET or SETUP clears them (42_session_commands R172, R173). -/
  | clears (command : commandAt s 0#2 ∨ commandAt s 1#2) (u : State) (toggle : u.perfEnable = s.perfEnable)
      (next : t = u.clearSession)
  /-- They stay, and a running DECODE does not end. -/
  | keeps (kept : KeepsRecord s t)
  /-- A running DECODE returns (43_loop_control R197). -/
  | returns (active : s.state = .active) (u : State) (next : t = u.returnToHost) (kept : KeepsRecord s u)

/-! ### The record step by step -/

/-- RESET and SETUP clear the session, whatever they make of the buffers (42_session_commands R172, R173). -/
theorem clearSession_of_command {s t : State} (command : commandAt s 0#2 ∨ commandAt s 1#2) (h : step s = .next t) :
    ∃ u : State, u.perfEnable = s.perfEnable ∧ t = u.clearSession := by
  obtain ⟨idle, w, port, op⟩ | ⟨idle, w, port, op⟩ := command
  all_goals
    rw [stepRunsCommandWord s w idle port, decodeCommand, op] at h
    cases h
  · exact ⟨{ s with port := none }.release, rfl, rfl⟩
  · exact ⟨{ s with port := none }.allocate, rfl, rfl⟩

/-- A command other than RESET and SETUP keeps the record: DECODE at its entry, and the reserved code (42_session_commands R171,
R174). -/
theorem KeepsRecord.command {w : Word} {s t : State} (notReset : w.extractLsb' 0 2 ≠ 0#2) (notSetup : w.extractLsb' 0 2 ≠ 1#2)
    (h : exec (decodeCommand w) s = .next t) : KeepsRecord s t := by
  obtain op | op | op | op := twoBits_cases (w.extractLsb' 0 2)
  · exact absurd op notReset
  · exact absurd op notSetup
  · rw [decodeCommand, op] at h
    cases entry : s.entryError with
    | none =>
      cases (exec_decode_of_accepted entry).symm.trans h
      exact ⟨fun _ => rfl, fun _ => rfl, rfl, rfl, rfl⟩
    | some e =>
      cases (exec_decode_of_refused entry).symm.trans h
      exact .of_record rfl
  · rw [decodeCommand, op] at h
    cases h
    exact .of_record rfl

/-- A register access that is no RESET and no SETUP keeps the record. -/
theorem KeepsRecord.servePort {req : PortReq} {s t : State}
    (other : ∀ w, req = .write 0 w → s.state = .idle → w.extractLsb' 0 2 ≠ 0#2 ∧ w.extractLsb' 0 2 ≠ 1#2)
    (h : servePort req s = .next t) : KeepsRecord s t := by
  cases req with
  | read a =>
    cases h
    exact .of_record rfl
  | write a w =>
    rcases eq_or_ne a 0 with rfl | register
    · cases state : s.state with
      | idle =>
        obtain ⟨notReset, notSetup⟩ := other w rfl state
        exact .command notReset notSetup (servePort_command w state ▸ h)
      | active =>
        rw [servePort_command_active w state] at h
        cases h
        exact .of_record rfl
    · obtain ⟨_, _, _, _, rfl⟩ := State.writeRegister_next (servePort_write w s register ▸ h)
      exact .of_record rfl

/-- A step inside a cycle of a running DECODE. -/
theorem CycleOutcome.recordCase {s t : State} (active : s.state = .active) (h : CycleOutcome s t) : RecordCase s t := by
  cases h with
  | goesOn same => exact .keeps (.of_record same)
  | aborts u e next same =>
    exact .returns active (u.setError e).finishBlock next { (KeepsRecord.of_record same).setError e with }

/-- The loop tests of a running DECODE (43_loop_control R190): a met request, the end of the stream and an empty quota return. -/
theorem RecordCase.blockTest {s : State} (active : s.state = .active) : RecordCase s s.blockTest := by
  unfold State.blockTest
  split
  · exact .returns active s rfl (.of_record rfl)
  · split
    · exact .keeps (.of_record rfl)
    · exact .returns active (s.setError .streamExhausted) rfl ((KeepsRecord.of_record rfl).setError _)
    · unfold State.enterBlock
      dsimp only
      split
      · exact .returns active _ rfl (.of_record rfl)
      · exact .keeps (.of_record rfl)

/-- Every step clears the record, keeps it, or returns from a DECODE. -/
theorem recordCase_of_step {s t : State} (h : step s = .next t) : RecordCase s t := by
  by_cases command : commandAt s 0#2 ∨ commandAt s 1#2
  · obtain ⟨u, toggle, next⟩ := clearSession_of_command command h
    exact .clears command u toggle next
  · cases stepCase_of_step h with
    | served req port next =>
      have kept : KeepsRecord { s with port := none } t :=
        .servePort (fun w write idle => ⟨fun op => command (.inl ⟨idle, w, write ▸ port, op⟩),
          fun op => command (.inr ⟨idle, w, write ▸ port, op⟩)⟩) next
      exact .keeps { kept with }
    | idles _ _ next => exact .keeps (.of_record (next ▸ rfl))
    | tests _ active _ next => exact next ▸ .blockTest active
    | runsCycle _ active _ _ next => exact (CycleOutcome.stepCycle next).recordCase active
    | endsBlock _ _ _ _ next => exact .keeps (.of_record (next ▸ rfl))
    | fetches _ active _ next => exact (CycleOutcome.stepPayload next).recordCase active

/-! ### The latched fault -/

/-- Settles O39: of the cases of a step only the clearing ones write a latched fault. -/
theorem faultIsSticky : Obligations.FaultIsSticky := by
  refine ⟨fun s t latched step notReset notSetup => ?sticky, fun s t step command => ?cleared, fun s latched => ?refused⟩
  case sticky =>
    cases recordCase_of_step step with
    | clears command => exact absurd command (not_or.2 ⟨notReset, notSetup⟩)
    | keeps kept => exact kept.fault latched
    | returns _ u next kept => exact next ▸ kept.fault latched
  case cleared =>
    obtain ⟨u, -, rfl⟩ := clearSession_of_command command step
    exact u.clearSession_fault
  case refused => exact exec_decode_of_refused (if_pos latched)

/-! ### The toggle -/

/-- The host's actions leave the build as it is (60_exceptions R260). -/
theorem hostInput_perfEnable {h : HostInput} {s t : State} (next : hostInput h s = .next t) : t.perfEnable = s.perfEnable := by
  unfold hostInput at next
  cases h with
  | declareEnd | powerOn => cases next; rfl
  | access | supply | bindStream | bindDest =>
    dsimp only at next
    split at next <;> cases next
    rfl

/-- So does every step (60_exceptions R260). -/
theorem step_perfEnable {s t : State} (h : step s = .next t) : t.perfEnable = s.perfEnable := by
  cases recordCase_of_step h with
  | clears _ u toggle next => exact next ▸ toggle
  | keeps kept => exact kept.perfEnable
  | returns _ u next kept => exact next ▸ kept.perfEnable

/-- Settles O46: with the toggle off even the return of a DECODE keeps the bookkeeping. -/
theorem instrumentationToggle : Obligations.InstrumentationToggle := by
  refine ⟨fun _ _ => step_perfEnable, fun _ _ _ => hostInput_perfEnable, fun s t step off noHist noRatio => ?_⟩
  have perf : t.readRegister 10 = 0#32 := State.perfWord_of_off ((step_perfEnable step).trans off)
  cases recordCase_of_step step with
  | clears _ u _ next => exact ⟨next ▸ rfl, next ▸ rfl, perf⟩
  | keeps kept => exact ⟨kept.perfHist.trans noHist, kept.perfRatio.trans noRatio, perf⟩
  | returns _ u next kept =>
    rw [State.returnToHost_of_perfOff (kept.perfEnable.trans off)] at next
    exact ⟨next ▸ kept.perfHist.trans noHist, next ▸ kept.perfRatio.trans noRatio, perf⟩

/-! ### The throughput record -/

/-- The history after a sample is the newest part of the history and the sample (60_exceptions R258). -/
theorem pushThroughput_suffix (hist : List Word) (x : Word) : pushThroughput hist x <:+ hist ++ [x] := by
  unfold pushThroughput
  split
  · exact List.suffix_rfl
  · exact ⟨hist.take 1, by rw [← List.append_assoc, List.take_append_drop]⟩

/-- A history within its depth grows by one sample up to that depth (60_exceptions R258). -/
theorem pushThroughput_length_eq_min {hist : List Word} (x : Word) (depth : hist.length ≤ Config.histDepth) :
    (pushThroughput hist x).length = min (hist.length + 1) Config.histDepth := by
  have positive : 1 ≤ Config.histDepth := Nat.le_add_left 1 _
  rw [pushThroughput_length]
  split <;> omega

theorem meanThroughput_of_two_le {hist : List Word} (two : 2 ≤ hist.length) :
    meanThroughput hist = Config.throughputMean hist := by
  match hist, two with
  | _ :: _ :: _, _ => rfl

/-- With the toggle on `PERF` reads the mean of the history where the ratio is that mean (60_exceptions R259). -/
theorem State.perfWord_eq_mean {s : State} (on : s.perfEnable = true) (ratio : s.perfRatio = meanThroughput s.perfHist) :
    s.perfWord = meanThroughput s.perfHist := by
  unfold State.perfWord
  rw [if_pos on, ratio]
  match s.perfHist with
  | [] | [_] | _ :: _ :: _ => rfl

/-- With the toggle on the return of a DECODE records one sample (43_loop_control R197, 60_exceptions R258). -/
theorem State.returnToHost_of_perfOn {s : State} (on : s.perfEnable = true) :
    s.returnToHost.perfHist = pushThroughput s.perfHist s.throughput ∧
      s.returnToHost.perfRatio = meanThroughput s.returnToHost.perfHist := by
  simp [on]

/-- Settles O47: the return of a DECODE is the one step that records, and it ends the DECODE. -/
theorem throughputHistory : Obligations.ThroughputHistory := by
  intro s t on depth step
  refine ⟨fun ended => ?ends, fun command => ?clears, fun goesOn notReset notSetup => ?keeps⟩
  case ends =>
    obtain ⟨active, idle⟩ := ended
    cases recordCase_of_step step with
    | clears command => exact absurd (active.symm.trans (command.elim And.left And.left)) RunState.noConfusion
    | keeps kept => exact absurd ((kept.running active).symm.trans idle) RunState.noConfusion
    | returns _ u next kept =>
      subst next
      have uOn : u.perfEnable = true := kept.perfEnable.trans on
      obtain ⟨hist, ratio⟩ := State.returnToHost_of_perfOn uOn
      have perf : u.returnToHost.readRegister 10 = meanThroughput u.returnToHost.perfHist := State.perfWord_eq_mean uOn ratio
      rw [kept.perfHist] at hist
      refine ⟨u.throughput, ?_, ?_, fun one => ?_, fun two => ?_⟩
      · exact hist ▸ pushThroughput_suffix _ _
      · exact hist ▸ pushThroughput_length_eq_min _ depth
      · rw [perf, one, meanThroughput]
      · rw [perf, meanThroughput_of_two_le two]
  case clears =>
    obtain ⟨u, -, rfl⟩ := clearSession_of_command command step
    exact ⟨rfl, rfl, State.readRegister_clearSession (by decide) u⟩
  case keeps =>
    cases recordCase_of_step step with
    | clears command => exact absurd command (not_or.2 ⟨notReset, notSetup⟩)
    | keeps kept => exact ⟨kept.perfHist, kept.perfRatio⟩
    | returns active u next _ => exact absurd ⟨active, next ▸ rfl⟩ goesOn

end Sys2Proof.Machine
end

section
/-!
SUPPORT. The host actions (70_reset_and_hazards R270, R273, R280) keep the invariant: accesses and the
stream's supply, end and binding are outside the part of the state the invariant speaks of; a fresh destination and the
reset input establish anew the clauses they touch.
-/

namespace Sys2Proof.Machine

/-- A destination in canonical form may be exchanged for another (70_reset_and_hazards R273). -/
theorem State.Inv.withDst {s : State} (h : s.Inv) {dst0 dst1 : DstMem} (h0 : dst0.wf = true) (h1 : dst1.wf = true) :
    (s.withDst dst0 dst1).Inv :=
  { h with
    buffers := ⟨h.buffers.allocated, h.buffers.released⟩
    perf := ⟨h.perf.off, h.perf.depth⟩
    dst0 := h0
    dst1 := h1
    active := fun e => { h.active e with } }

/-- The reset input leaves an Idle core of the invariant over the old destination, whatever ran (70_reset_and_hazards R270). -/
theorem State.inv_powerOn {s : State} (h0 : s.dst0.wf = true) (h1 : s.dst1.wf = true) : s.powerOn.Inv :=
  { resetSatisfiesInvariant with
    buffers := ⟨Bool.noConfusion, fun _ => ⟨rfl, rfl, rfl⟩⟩
    perf := ⟨fun _ => ⟨rfl, rfl⟩, Nat.zero_le _⟩
    dst0 := h0
    dst1 := h1
    active := RunState.noConfusion }

/-- Settles O51: the reset input and a fresh destination establish the clauses they touch, the other actions touch none. -/
theorem hostInputKeepsInvariant : Obligations.HostInputKeepsInvariant := by
  intro input s t h next
  unfold hostInput at next
  cases input with
  | powerOn => cases next; exact State.inv_powerOn h.dst0 h.dst1
  | declareEnd => cases next; exact h.congr rfl
  | bindDest =>
    dsimp only at next
    split at next <;> cases next
    exact h.withDst State.reset_dst_wf.1 State.reset_dst_wf.2
  | access | supply | bindStream =>
    dsimp only at next
    split at next <;> cases next
    exact h.congr rfl

end Sys2Proof.Machine
end
